-- ==== Sys2Proof/Word.lean ====
section
/-!
DEFINITION. The words, identifiers and records that cross the controller's connections: bytes, register words, beats,
addresses (00 §0.5, Table 0-3), the port request record (05 R68, Table 5-1) and the memory side's status (08 R128).
-/

namespace Sys2Proof

/-- One byte of a record. -/
abbrev Byte := BitVec 8

/-- One register of the management window (11 R181). -/
abbrev Word := BitVec 32

/-- One beat, 32 bytes of data (00 Table 0-3); byte 0 is the least significant (11 R184). -/
abbrev Beat := BitVec 256

/-- A 40-bit byte address (00 Table 0-3). -/
abbrev Address := BitVec 40

/-- A lease id, 0 to 63 (01 R1). -/
abbrev LeaseId := Fin 64

/-- A client port, P0 to P7. -/
abbrev PortId := Fin 8

/-- A stream tag, 0 to 15 (05 R83). -/
abbrev StreamTag := Fin 16

/-- A tag of the memory port's tag table, 0 to 31 (08 R124). -/
abbrev TagId := Fin 32

/-- Bytes 1 to 31 of a command record, byte 1 least significant: all of a record but its command code (11 R185). -/
abbrev RecordBody := BitVec 248

/-- The direction of a request (05 Table 5-1). -/
inductive Direction where
  | read
  | write
  deriving DecidableEq, Repr

/-- The status a memory response carries (08 R128). -/
inductive MemoryStatus where
  | ok
  | error
  deriving DecidableEq, Repr

/-- The port request record of a client link (05 R68, Table 5-1), as it stands on the link: nothing is checked. -/
structure PortRequest where
  tag       : StreamTag
  direction : Direction
  address   : Address
  length    : Fin 32
  clientId  : Byte
  data      : List Beat
  deriving DecidableEq, Repr

end Sys2Proof
end

