-- ==== Sys2Proof/Syntax.lean ====
section
/-!
DEFINITION. The commands the controller takes: one constructor for each row of spec/opcode_table.json. The operands are
those the row's rule names: a window value, a port, a lease id, a tag, a request, the bytes of a fetched command record.
-/

namespace Sys2Proof

/-- A command: a whole claim from outside the controller or of one of its units. -/
inductive Instr where
  /-- POWER_ON_RESET (R188): the reset input is asserted and released. -/
  | powerOnReset
  /-- SOFT_RESET (R183): ENGINE_CONTROL code 4. -/
  | softReset
  /-- MEMORY_PORT_RESET (R137): ENGINE_CONTROL code 5. -/
  | memoryPortReset
  /-- MEMORY_SIDE_RESET (R137): the memory side resets the link. -/
  | memorySideReset
  /-- PORT_RESET (R182): ENGINE_CONTROL code 6; bit i of the mask names port i. -/
  | portReset (mask : Byte)
  /-- CLIENT_PORT_RESET (R80): a client resets its link. -/
  | clientPortReset (port : PortId)
  /-- START (R144): ENGINE_CONTROL code 1. -/
  | start
  /-- STOP (R144): ENGINE_CONTROL code 2. -/
  | stop
  /-- CLEAR_HALT (R144): ENGINE_CONTROL code 3. -/
  | clearHalt
  /-- SUBMIT_INDEX_WRITE (R142). -/
  | submitIndexWrite (value : Word)
  /-- RING_BASE_WRITE (R141): word 0 is RING_BASE_0, word 1 is RING_BASE_1. -/
  | ringBaseWrite (word : Fin 2) (value : Word)
  /-- RING_SIZE_WRITE (R141). -/
  | ringSizeWrite (value : Word)
  /-- INT_STATUS_WRITE (R179). -/
  | intStatusWrite (value : Word)
  /-- INT_ENABLE_WRITE (R180). -/
  | intEnableWrite (value : Word)
  /-- TIMEBASE_MHZ_WRITE (R25). -/
  | timebaseMhzWrite (value : Word)
  /-- REGISTER_WRITE (R182): any other window write, at a byte offset. -/
  | registerWrite (offset : Word) (value : Word)
  /-- MICROSECOND_EVENT (R25). -/
  | microsecondEvent
  /-- PERIOD_TIMER_EXPIRY (R28): the microsecond event that brings one period timer to its length. -/
  | periodTimerExpiry (lease : LeaseId)
  /-- PERIOD_END (R32): the lease table takes one raised period end of the lease. -/
  | periodEnd (lease : LeaseId)
  /-- STALL_EXPIRY (R76): the microsecond event that brings one stall timer to its limit. -/
  | stallExpiry (port : PortId)
  /-- RESPONSE_TIMEOUT (R133): the microsecond event that brings one tag's response timer to the limit. -/
  | responseTimeout (tag : TagId)
  /-- REQUEST_ARRIVAL (R69). -/
  | requestArrival (port : PortId) (request : PortRequest)
  /-- PORT_HEAD_EXAMINATION (R91): the admission unit serves the next waiting position, a port. -/
  | portHeadExamination
  /-- RELEASED_ENTRY_EXAMINATION (R113): it serves the next waiting position, a release. -/
  | releasedEntryExamination
  /-- ENGINE_REQUEST_EXAMINATION (R102): it serves the next waiting position, the engine. -/
  | engineRequestExamination
  /-- ISSUE (R126). -/
  | issue
  /-- MEMORY_RESPONSE (R128). -/
  | memoryResponse (tag : TagId) (status : MemoryStatus) (data : List Beat)
  /-- READY_SIGNAL (R127): the ready level is asserted. -/
  | readySignal
  /-- NOP (R177). -/
  | nop (body : RecordBody)
  /-- OPEN_LEASE (R161). -/
  | openLease (body : RecordBody)
  /-- RESIZE_LEASE (R164). -/
  | resizeLease (body : RecordBody)
  /-- RENEW_LEASE (R165). -/
  | renewLease (body : RecordBody)
  /-- SUSPEND_LEASE (R167). -/
  | suspendLease (body : RecordBody)
  /-- RESUME_LEASE (R168). -/
  | resumeLease (body : RecordBody)
  /-- RETIRE_LEASE (R169). -/
  | retireLease (body : RecordBody)
  /-- BIND_STREAM (R171). -/
  | bindStream (body : RecordBody)
  /-- UNBIND_STREAM (R172). -/
  | unbindStream (body : RecordBody)
  /-- QUERY_LEASE (R173). -/
  | queryLease (body : RecordBody)
  /-- ACK_ATTENTION (R175). -/
  | ackAttention (body : RecordBody)
  /-- SET_CAPACITY (R176). -/
  | setCapacity (body : RecordBody)
  /-- READY_LEVEL_DEASSERTED (R127). -/
  | readyLevelDeasserted
  /-- UNKNOWN_COMMAND_CODE (R148): a fetched record whose code is none of the twelve. -/
  | unknownCommandCode (code : Byte) (body : RecordBody)
  deriving DecidableEq, Repr

end Sys2Proof
end

