-- ==== Sys2Proof/Decode.lean ====
section
/-!
DEFINITION. The commands that a word of spec/opcode_table.json spells. No row of the table gives bits ("n_rows_with_fixed": 0,
spec/98_reader.md), so no word spells a command. The records that do have bits, the command records of the ring, are read in
Sys2Proof/Machine/Operands.lean (R185).
-/

namespace Sys2Proof

/-- The command a word spells by the table's bits: none, since no row gives bits. -/
def decodeTableWord (_nbits _w : Nat) : Option Instr := none

end Sys2Proof
end

