-- ==== Sys2Proof/Config.lean ====
section
/-!
DEFINITION. The figures the manual fixes for the part, and the one free value of the model.
-/

namespace Sys2Proof.Config

/-- The bound of a 32-bit saturating count (00 §0.5). -/
def max32 : Nat := 4294967295

/-- The bound of a 16-bit figure: stall timers, response timers, periods remaining (R74, R132, R165). -/
def max16 : Nat := 65535

/-- Requests an inbound FIFO holds (R69). -/
def fifoDepth : Nat := 8

/-- Slots of the hold pool (R107). -/
def poolSlots : Nat := 96

/-- The largest hold limit (R110). -/
def holdLimitMax : Nat := 32

/-- Entries of each dispatch queue (R121). -/
def queueDepth : Nat := 16

/-- The bound of the G-run count (R125). -/
def gRunMax : Nat := 8

/-- FREE VALUE (entry 4): the beats that stand in a read answered OK with fewer beats than the request's length. The manual
says that the memory side returns as many beats as the length (R128) and states no data for any other answer. Safe: nothing is
known of the value. -/
opaque freeBeat : Nat → Beat

end Sys2Proof.Config
end

