-- ==== Sys2Proof/Machine/State.lean ====
section
/-!
DEFINITION. The state of the controller, block by block (00 Table 0-1), as plain data, and its power-on values.
Counts are Nat with the ranges of the manual; `Sys2Proof/Safety.lean` states the ranges and the laws between fields.
-/

namespace Sys2Proof.Machine

/-! ### Lease table (Section 1) -/

/-- The lease states (R2, 1.4). -/
inductive LeaseState where
  | free
  | opened
  | suspended
  | draining
  deriving DecidableEq, Repr

/-- Why a lease drains (R14). -/
inductive DrainCause where
  | retired
  | expired
  deriving DecidableEq, Repr

/-- The lease classes (R3). -/
inductive LeaseClass where
  | guaranteed
  | capped
  | shared
  deriving DecidableEq, Repr

/-- The permitted access of a fence (R7). -/
inductive Access where
  | read
  | write
  | readWrite
  deriving DecidableEq, Repr

/-- A fence: numbers of the first and last 4 KiB block of the window, and the permitted access (R7). -/
structure Fence where
  base   : Nat
  limit  : Nat
  access : Access
  deriving DecidableEq, Repr

/-- The regimes of a SHARED lease (R44). -/
inductive Regime where
  | watch
  | curb
  deriving DecidableEq, Repr

/-- A set of reasons; bit 0 is EXPIRED, bit 1 CURBED, bit 2 FREED, bit 3 FAULT (the order of R184's bits 4 to 7). -/
abbrev ReasonSet := BitVec 4

/-- A lease record, every field of Table 1-1 (R2). -/
structure Lease where
  state             : LeaseState
  drainCause        : Option DrainCause
  cls               : LeaseClass
  k                 : Nat
  budget            : Nat
  carryLimit        : Nat
  credit            : Nat
  spent             : Nat
  term              : Nat
  periodsRemaining  : Nat
  holdLimit         : Nat
  heldCount         : Nat
  overdrawPermitted : Bool
  fence             : Option Fence
  watchThreshold    : Nat
  reviewSpan        : Nat
  curbLength        : Nat
  regime            : Regime
  reviewAccumulator : Nat
  reviewCounter     : Nat
  curbRemaining     : Nat
  outstanding       : Nat
  admittedBeats     : Nat
  overdrawBeats     : Nat
  heldTotal         : Nat
  refusedCount      : Nat
  faultCount        : Nat
  notify            : ReasonSet
  reasons           : ReasonSet
  boundSlots        : Nat
  deriving DecidableEq, Repr

/-- The record of a FREE lease with the given sets (R11). -/
def Lease.freeRecord (notify reasons : ReasonSet) : Lease where
  state := .free
  drainCause := none
  cls := .guaranteed
  k := 0
  budget := 0
  carryLimit := 0
  credit := 0
  spent := 0
  term := 0
  periodsRemaining := 0
  holdLimit := 0
  heldCount := 0
  overdrawPermitted := false
  fence := none
  watchThreshold := 0
  reviewSpan := 0
  curbLength := 0
  regime := .watch
  reviewAccumulator := 0
  reviewCounter := 0
  curbRemaining := 0
  outstanding := 0
  admittedBeats := 0
  overdrawBeats := 0
  heldTotal := 0
  refusedCount := 0
  faultCount := 0
  notify := notify
  reasons := reasons
  boundSlots := 0

/-- The record of lease 0 after power-on and soft reset (R21). -/
def Lease.engineRecord : Lease :=
  { Lease.freeRecord 0 0 with state := .opened, budget := 16, credit := 16 }

/-- A period timer (R28) and the period ends it has raised that are not yet taken (R29; DEDUCED as a count, entry 11). -/
structure PeriodTimer where
  count   : Nat
  running : Bool
  raised  : Nat
  deriving DecidableEq, Repr

/-- The timebase (R25): TIMEBASE_MHZ, the divisor of the microsecond in progress, and the core clock cycles counted in it. -/
structure Timebase where
  mhz     : Nat
  divisor : Nat
  cycles  : Nat
  deriving DecidableEq, Repr

/-! ### Client ports (Section 5) -/

/-- The head states (R70). -/
inductive HeadState where
  | idle
  | examining
  | blocked
  deriving DecidableEq, Repr

/-- A client port unit (R67), with the requests the client keeps on the link while the port holds it back (R69) and the number of
re-examination triggers handed to the unit that it has not taken yet (R72, entry 7). -/
structure Port where
  fifo       : List PortRequest
  head       : HeadState
  stallTimer : Nat
  stallLimit : Nat
  examined   : Option LeaseId
  link       : List PortRequest
  triggers   : Nat
  deriving DecidableEq, Repr

/-! ### Hold queues (Section 7) -/

/-- A held entry (R108, Table 7-1). -/
structure HeldEntry where
  port      : PortId
  clientId  : Byte
  direction : Direction
  address   : Address
  length    : Nat
  data      : List Beat
  deriving DecidableEq, Repr

/-- The release state of a lease's hold queue (R112). -/
inductive ReleaseState where
  | idle
  | running
  | paused
  deriving DecidableEq, Repr

/-! ### Dispatcher and memory port (Section 8) -/

/-- Where a dispatched request came from: a client port with its request id, or the engine (engine flag set, no port and no
id; Tables 8-1 and 8-2). -/
inductive Origin where
  | client (port : PortId) (clientId : Byte)
  | engine
  deriving DecidableEq, Repr

/-- A dispatch entry (R121, Table 8-1). -/
structure DispatchEntry where
  lease     : LeaseId
  origin    : Origin
  direction : Direction
  address   : Address
  length    : Nat
  data      : List Beat
  deriving DecidableEq, Repr

/-- The fields of an ISSUED tag (R124, Table 8-2). -/
structure IssuedTag where
  lease     : LeaseId
  origin    : Origin
  direction : Direction
  length    : Nat
  muted     : Bool
  timer     : Nat
  deriving DecidableEq, Repr

/-- A tag (R124). FREE and ORPHANED tags carry no fields: they read as zero with the flags clear (entry 17). -/
inductive Tag where
  | free
  | issued (fields : IssuedTag)
  | orphaned
  deriving DecidableEq, Repr

/-- The memory link's states (R127). -/
inductive LinkState where
  | down
  | up
  deriving DecidableEq, Repr

/-! ### Command engine (Section 9) -/

/-- The statuses of a completion record (R151). -/
inductive CommandStatus where
  | ok
  | badCommand
  | badParam
  | reservedLease
  | noLease
  | inUse
  | notOpen
  | draining
  | tooLate
  | overCapacity
  deriving DecidableEq, Repr

/-- The executed command in hand: what its completion record will carry (R148, R151). -/
structure InHand where
  code     : Byte
  sequence : BitVec 16
  status   : CommandStatus
  result   : Word
  deriving DecidableEq, Repr

/-- The step of the command in hand (R145). EXECUTE begins and ends within one claim, so no state holds it. -/
inductive EngineStep where
  | fetch
  | snapshot (command : InHand) (address : Address) (beats : List Beat)
  | completion (command : InHand)
  deriving DecidableEq, Repr

/-- The phases of the engine's one request (R146). -/
inductive RequestPhase where
  | presented
  | waiting
  | placed
  | issued
  deriving DecidableEq, Repr

/-- The engine states (R143). Stop-pending, the step and the request are held in BUSY alone: the first is cleared and the
others end when the engine leaves BUSY (entry 17). -/
inductive EngineState where
  | stopped
  | idle
  | busy (step : EngineStep) (phase : RequestPhase) (stopPending : Bool)
  | halted
  deriving DecidableEq, Repr

/-- The step named in the fault record (R153). -/
inductive FaultStep where
  | none
  | fetch
  | snapshot
  | completion
  deriving DecidableEq, Repr

/-- The cause named in the fault record (R153). -/
inductive FaultCause where
  | none
  | memoryError
  | timeout
  | memoryAbort
  deriving DecidableEq, Repr

/-- The fault record (R153). -/
structure FaultRecord where
  slot  : Nat
  step  : FaultStep
  cause : FaultCause
  deriving DecidableEq, Repr

/-- The completion modes (R152). -/
inductive CompletionMode where
  | each
  | caughtUp
  deriving DecidableEq, Repr

/-- The command engine (R141 to R156). -/
structure Engine where
  state          : EngineState
  ringBase       : Address
  ringSize       : Nat
  submit         : Nat
  fetch          : Nat
  complete       : Nat
  fault          : FaultRecord
  completionMode : CompletionMode
  deriving DecidableEq, Repr

/-! ### What leaves the controller -/

/-- The client statuses (R79, Table 5-5). -/
inductive ClientStatus where
  | done
  | refusedForm
  | refusedUnbound
  | refusedFence
  | refusedOversize
  | refusedRetired
  | refusedStalled
  | memoryError
  | timeout
  | aborted
  deriving DecidableEq, Repr

/-- A response sent on a client link (R78, Table 5-4). -/
structure Response where
  port     : PortId
  clientId : Byte
  status   : ClientStatus
  data     : List Beat
  deriving DecidableEq, Repr

/-- What is sent on the memory link: a tagged request (R126), or the reset signal of MEMORY_PORT_RESET (R137). -/
inductive MemoryOut where
  | request (tag : TagId) (direction : Direction) (address : Address) (length : Nat) (data : List Beat)
  | resetSignal
  deriving DecidableEq, Repr

/-! ### The whole controller -/

/-- The controller. `sent` and `memoryOut` record what has left on the links, oldest first (entry 3); `freeIndex` counts the
free values used (entry 4); `delayed` says, for each coming claim that reads the port heads, which triggers are still on their way
then, a port once for each (entry 7); `pending` is the queue of commands waiting. -/
structure State where
  leases          : Vector Lease 64
  timers          : Vector PeriodTimer 64
  timebase        : Timebase
  capacity        : Nat
  committed       : Nat
  ports           : Vector Port 8
  streams         : Vector (Option LeaseId) 128
  lastServed      : Fin 72
  holdQueues      : Vector (List HeldEntry) 64
  releases        : Vector ReleaseState 64
  poolFree        : Nat
  gQueue          : List DispatchEntry
  sQueue          : List DispatchEntry
  gRun            : Nat
  tags            : Vector Tag 32
  link            : LinkState
  readyLevel      : Bool
  responseTimeout : Nat
  engine          : Engine
  attention       : BitVec 64
  intStatus       : BitVec 6
  intEnable       : BitVec 6
  sent            : List Response
  memoryOut       : List MemoryOut
  freeIndex       : Nat
  delayed         : List (List PortId)
  pending         : List Instr
  deriving DecidableEq, Repr

/-- Reasons the machine stops with a fault. There is none: every condition the manual reports is a status, a count, a reason, an
interrupt source or a halt of the engine, after each of which the controller goes on. Safe: no run is cut short. -/
inductive Fault where
  deriving DecidableEq, Repr

/-- Reasons a command is refused by the model. -/
inductive Refusal where
  /-- Raised by an arm of `exec` for a command that has no meaning yet; no arm raises it. Safe: such a run stops. -/
  | notModelled (mnemonic : String)
  deriving DecidableEq, Repr

/-- A client port unit after power-on reset (R67). -/
def Port.powerOn : Port where
  fifo := []
  head := .idle
  stallTimer := 0
  stallLimit := 0
  examined := none
  link := []
  triggers := 0

/-- The command engine after power-on reset (R156). -/
def Engine.powerOn : Engine where
  state := .stopped
  ringBase := 0
  ringSize := 16
  submit := 0
  fetch := 0
  complete := 0
  fault := { slot := 0, step := .none, cause := .none }
  completionMode := .each

/-- The lease table after power-on and soft reset (R23). -/
def resetLeases : Vector Lease 64 :=
  (Vector.replicate 64 (Lease.freeRecord 0 0)).set 0 Lease.engineRecord

/-- The period timers after power-on and soft reset: lease 0's runs from 0, the others are stopped at 0 (R31). -/
def resetTimers : Vector PeriodTimer 64 :=
  (Vector.replicate 64 { count := 0, running := false, raised := 0 }).set 0 { count := 0, running := true, raised := 0 }

/-- The controller right after power-on reset. The links' kept requests and the two output histories are empty, the ready level
is deasserted, the free-value counter is 0 and no trigger is delayed (DESIGN CHOICE, entry 2); every other value is the manual's. -/
def State.reset : State where
  leases := resetLeases
  timers := resetTimers
  timebase := { mhz := 200, divisor := 200, cycles := 0 }
  capacity := 1048576
  committed := 65536
  ports := Vector.replicate 8 Port.powerOn
  streams := Vector.replicate 128 none
  lastServed := 71
  holdQueues := Vector.replicate 64 []
  releases := Vector.replicate 64 .idle
  poolFree := 96
  gQueue := []
  sQueue := []
  gRun := 0
  tags := Vector.replicate 32 .free
  link := .down
  readyLevel := false
  responseTimeout := 500
  engine := Engine.powerOn
  attention := 0
  intStatus := 0
  intEnable := 0
  sent := []
  memoryOut := []
  freeIndex := 0
  delayed := []
  pending := []

end Sys2Proof.Machine
end

