-- ==== Sys2Proof/Machine/Flags.lean ====
section
/-!
DEFINITION. The controller's flags: the interrupt sources and the interrupt line (R179, R180), the reasons and the attention
set (R10, R178).
-/

namespace Sys2Proof.Machine

/-- The interrupt sources, in the bit order of Table 11-1. -/
inductive Source where
  | attention
  | command
  | halt
  | portStall
  | stray
  | linkReset
  deriving DecidableEq, Repr

/-- The bit of a source in INT_STATUS and INT_ENABLE (Table 11-1). -/
def Source.mask : Source → BitVec 6
  | .attention => 0b000001#6
  | .command => 0b000010#6
  | .halt => 0b000100#6
  | .portStall => 0b001000#6
  | .stray => 0b010000#6
  | .linkReset => 0b100000#6

/-- Sets a sticky source; a source already set stays as it is (R179). -/
def setSource (src : Source) (s : State) : State := { s with intStatus := s.intStatus ||| src.mask }

/-- The interrupt line: high while a source is both set and enabled (R180). -/
def interruptLine (s : State) : Bool := s.intStatus &&& s.intEnable != 0

/-- The four reasons (R10). -/
inductive Reason where
  | expired
  | curbed
  | freed
  | fault
  deriving DecidableEq, Repr

/-- The position of a reason in a reason set (R184: bits 4 to 7 of a byte, here bits 0 to 3). -/
def Reason.mask : Reason → ReasonSet
  | .expired => 0b0001#4
  | .curbed => 0b0010#4
  | .freed => 0b0100#4
  | .fault => 0b1000#4

/-- The bit of a lease in the attention set. -/
def attentionBit (l : LeaseId) : BitVec 64 := 1#64 <<< l.val

/-- A lease joins the attention set, and ATTENTION is set (R178). -/
def joinAttention (l : LeaseId) (s : State) : State :=
  setSource .attention { s with attention := s.attention ||| attentionBit l }

/-- A lease leaves the attention set; ATTENTION stays as it stands (R178). -/
def leaveAttention (l : LeaseId) (s : State) : State :=
  { s with attention := s.attention &&& ~~~ attentionBit l }

end Sys2Proof.Machine
end

