-- ==== Sys2Proof/Machine/Leases.lean ====
section
/-!
DEFINITION. Calculations on one lease record: its rate and period length, its path through admission, the claims of admission,
the hold queues and the memory port on it (Sections 1, 6, 7, 8), the refill and the regime step (Sections 2 and 3), and the
checks and record changes of the lease commands (Section 10).
-/

namespace Sys2Proof.Machine

/-- Addition that stays at the 32-bit bound (00 §0.5). -/
def satAdd32 (a b : Nat) : Nat := min (a + b) Config.max32

/-- The period length in microseconds, 16 × 2^k (R27). -/
def periodLength (k : Nat) : Nat := 16 * 2 ^ k

/-- The normalized rate of a budget and exponent, budget × 2^(12 − k) (R57). -/
def rateOf (budget k : Nat) : Nat := budget * 2 ^ (12 - k)

/-- The normalized rate of a lease (R57). -/
def Lease.rate (r : Lease) : Nat := rateOf r.budget r.k

/-- The lease is OPEN or SUSPENDED. -/
def Lease.active (r : Lease) : Bool :=
  match r.state with
  | .opened => true
  | .suspended => true
  | .free => false
  | .draining => false

/-! ### The path through admission (R95, Table 6-2) -/

/-- The oversize stage applies to the lease's items. -/
def Lease.limited (r : Lease) : Bool :=
  match r.cls with
  | .guaranteed => !r.overdrawPermitted
  | .capped => true
  | .shared => decide (r.regime = .curb)

/-- The hold test compares an item with the lease's credit. -/
def Lease.creditTested (r : Lease) : Bool :=
  match r.cls with
  | .guaranteed => true
  | .capped => true
  | .shared => decide (r.regime = .curb)

/-- The item is longer than budget plus carry limit on a limited path (R95). -/
def Lease.oversize (r : Lease) (length : Nat) : Bool := r.limited && decide (r.budget + r.carryLimit < length)

/-- The credit is short for the item on a credit-tested path (R96). -/
def Lease.creditShort (r : Lease) (length : Nat) : Bool := r.creditTested && decide (r.credit < r.spent + length)

/-- The fence, if any, lets the request through: its 4 KiB block lies within and its direction is permitted (R7, R94). -/
def Lease.fenceAdmits (r : Lease) (address : Address) (direction : Direction) : Bool :=
  match r.fence with
  | none => true
  | some f =>
    decide (f.base ≤ address.toNat / 4096) && decide (address.toNat / 4096 ≤ f.limit) &&
      (match f.access, direction with
       | .readWrite, _ => true
       | .read, .read => true
       | .write, .write => true
       | .read, .write => false
       | .write, .read => false)

/-! ### Claims on the record -/

/-- A charge (R6, R8, R100): spent and admitted beats rise by the length, credit is raised with spent in WATCH, outstanding
rises by 1. -/
def Lease.charge (r : Lease) (length : Nat) : Lease :=
  let spent := satAdd32 r.spent length
  { r with
    spent := spent
    credit := if r.cls = .shared ∧ r.regime = .watch then max r.credit spent else r.credit
    admittedBeats := satAdd32 r.admittedBeats length
    outstanding := r.outstanding + 1 }

/-- An overdraw (R97): overdraw beats rise by the length and outstanding by 1; it is not a charge. -/
def Lease.overdraw (r : Lease) (length : Nat) : Lease :=
  { r with overdrawBeats := satAdd32 r.overdrawBeats length, outstanding := r.outstanding + 1 }

/-- A hold join (R98, R111). -/
def Lease.join (r : Lease) : Lease := { r with heldCount := r.heldCount + 1, heldTotal := satAdd32 r.heldTotal 1 }

/-- `n` held entries leave (R113, R116, R117). -/
def Lease.unhold (r : Lease) (n : Nat) : Lease := { r with heldCount := r.heldCount - n }

/-- `n` refusals counted (R8). -/
def Lease.countRefusals (r : Lease) (n : Nat) : Lease := { r with refusedCount := satAdd32 r.refusedCount n }

/-- A fault counted (R8). -/
def Lease.countFault (r : Lease) : Lease := { r with faultCount := satAdd32 r.faultCount 1 }

/-! ### Period ends (Sections 2 and 3) -/

/-- The refill of a GUARANTEED or CAPPED lease (R34): credit becomes budget plus the smaller of the credit left and the carry
limit, spent becomes 0. -/
def Lease.refill (r : Lease) : Lease :=
  { r with credit := r.budget + min (r.credit - r.spent) r.carryLimit, spent := 0 }

/-- The regime step's changes in WATCH (R48), before the credit setting. -/
def Lease.watchStep (r : Lease) : Lease :=
  let accumulator := satAdd32 r.reviewAccumulator r.spent
  let counter := r.reviewCounter - 1
  if 0 < counter then { r with reviewAccumulator := accumulator, reviewCounter := counter }
  else if r.watchThreshold < accumulator then
    { r with regime := .curb, curbRemaining := r.curbLength, reviewAccumulator := accumulator, reviewCounter := 0 }
  else { r with reviewAccumulator := 0, reviewCounter := r.reviewSpan }

/-- The regime step's changes in CURB (R49), before the credit setting. -/
def Lease.curbStep (r : Lease) : Lease :=
  let remaining := r.curbRemaining - 1
  if 0 < remaining then { r with curbRemaining := remaining }
  else { r with regime := .watch, curbRemaining := 0, reviewAccumulator := 0, reviewCounter := r.reviewSpan }

/-- The regime step (R47): the regime's own changes, then credit becomes the budget and spent 0. -/
def Lease.regimeStep (r : Lease) : Lease :=
  let r' := match r.regime with
    | .watch => r.watchStep
    | .curb => r.curbStep
  { r' with credit := r'.budget, spent := 0 }

/-- The regime step enters CURB (R48, step 4). -/
def Lease.entersCurb (r : Lease) : Bool :=
  decide (r.regime = .watch) && decide (r.regimeStep.regime = .curb)

/-- Step 2 of a period end (R32): the refill, or for a SHARED lease the regime step. -/
def Lease.newPeriod (r : Lease) : Lease :=
  match r.cls with
  | .guaranteed => r.refill
  | .capped => r.refill
  | .shared => r.regimeStep

/-! ### Lease commands (Section 10) -/

/-- The ranges of Table 10-3 that depend on the class. -/
def openClassRanges (c : LeaseClass) (budget carryLimit : Nat) (overdraw : Bool) (watchThreshold reviewSpan curbLength : Nat) :
    Bool :=
  match c with
  | .guaranteed =>
    decide (carryLimit ≤ budget) && decide (watchThreshold = 0) && decide (reviewSpan = 0) && decide (curbLength = 0)
  | .capped =>
    decide (carryLimit ≤ budget) && !overdraw && decide (watchThreshold = 0) && decide (reviewSpan = 0) && decide (curbLength = 0)
  | .shared =>
    decide (carryLimit = 0) && !overdraw && decide (1 ≤ watchThreshold) && decide (1 ≤ reviewSpan) && decide (reviewSpan ≤ 63) &&
      decide (1 ≤ curbLength) && decide (curbLength ≤ 63)

/-- The fence parameters of OPEN_LEASE (Table 10-3): `none` when refused, `some` of the fence they give. -/
def openFence (present : Bool) (base limit : Nat) (access : Option Access) (accessZero : Bool) : Option (Option Fence) :=
  if present then
    match access with
    | none => none
    | some a => if base ≤ limit ∧ limit ≤ 268435455 then some (some { base := base, limit := limit, access := a }) else none
  else if base = 0 ∧ limit = 0 ∧ accessZero then some none else none

/-- The parameter ranges of RESIZE_LEASE (R163) for the lease's own class; `isZero` says that the lease is lease 0. -/
def resizeRanges (c : LeaseClass) (isZero : Bool) (budget carryLimit holdLimit watchThreshold reviewSpan curbLength : Nat) : Bool :=
  decide (1 ≤ budget) && decide (holdLimit ≤ (if isZero then 0 else Config.holdLimitMax)) &&
    (match c with
     | .shared =>
       decide (carryLimit = 0) && decide (1 ≤ watchThreshold) && decide (1 ≤ reviewSpan) && decide (reviewSpan ≤ 63) &&
         decide (1 ≤ curbLength) && decide (curbLength ≤ 63)
     | .guaranteed => decide (watchThreshold = 0) && decide (reviewSpan = 0) && decide (curbLength = 0)
     | .capped => decide (watchThreshold = 0) && decide (reviewSpan = 0) && decide (curbLength = 0))

/-- The record changes of a RESIZE_LEASE that is taken (R164, steps 2 to 5). -/
def Lease.resize (r : Lease) (budget carryLimit holdLimit watchThreshold reviewSpan curbLength : Nat) : Lease :=
  let base := { r with
    budget := budget
    carryLimit := min carryLimit budget
    credit := if r.budget < budget then satAdd32 r.credit (budget - r.budget) else r.credit
    holdLimit := holdLimit }
  match r.cls with
  | .guaranteed => base
  | .capped => base
  | .shared =>
    { base with
      watchThreshold := watchThreshold
      reviewSpan := reviewSpan
      curbLength := curbLength
      reviewCounter := if r.regime = .watch then min r.reviewCounter reviewSpan else r.reviewCounter
      curbRemaining := if r.regime = .curb then min r.curbRemaining curbLength else r.curbRemaining }

end Sys2Proof.Machine
end

