-- ==== Sys2Proof/Machine/Operands.lean ====
section
/-!
DEFINITION. The layouts of Section 11: command records (R185), completion records (R186), query snapshots (R187), and the words
of the management window (R181).
-/

namespace Sys2Proof.Machine

/-! ### Fields of a beat, byte 0 least significant (R184) -/

/-- The byte at an offset of a beat. -/
def byteAt (r : Beat) (offset : Nat) : Byte := r.extractLsb' (8 * offset) 8

/-- The two-byte field at an offset, least significant byte first. -/
def halfAt (r : Beat) (offset : Nat) : BitVec 16 := r.extractLsb' (8 * offset) 16

/-- The four-byte field at an offset, least significant byte first. -/
def wordAt (r : Beat) (offset : Nat) : Word := r.extractLsb' (8 * offset) 32

/-- The low `bytes` bytes of a value placed at a byte offset of a beat: a field (offset, bytes, value). -/
def fieldBits (field : Nat × Nat × Nat) : Beat :=
  BitVec.ofNat 256 (field.2.2 % 2 ^ (8 * field.2.1)) <<< (8 * field.1)

/-- A beat holding the listed fields, every other byte zero. -/
def packBeat (fields : List (Nat × Nat × Nat)) : Beat := fields.foldr (fun f r => fieldBits f ||| r) 0

/-! ### Command records (R157, R185, Table 11-3) -/

/-- The 32 bytes of a slot: the command code, then bytes 1 to 31. -/
def commandRecord (code : Byte) (body : RecordBody) : Beat := body ++ code

/-- Byte 0: the command code. -/
def recordCode (r : Beat) : Byte := byteAt r 0

/-- Byte 1: the lease id field. -/
def recordLeaseField (r : Beat) : Byte := byteAt r 1

/-- Bytes 2 to 3: the sequence number. -/
def recordSequence (r : Beat) : BitVec 16 := halfAt r 2

/-- Byte 31: the done-marker field, reserved in every command record. -/
def recordDoneMarker (r : Beat) : Byte := byteAt r 31

/-- The bits a code reads, as (first bit, number of bits), by the columns of Table 11-3. -/
def fieldsRead (code : Byte) : List (Nat × Nat) :=
  let common := [(0, 8), (16, 16)]
  let lease := [(8, 8)]
  match code.toNat with
  | 1 => common ++ lease ++ [(32, 192)]
  | 2 => common ++ lease ++ [(48, 8), (64, 16), (80, 16), (112, 8), (120, 8), (128, 32)]
  | 3 => common ++ lease ++ [(96, 16)]
  | 4 => common ++ lease
  | 5 => common ++ lease
  | 6 => common ++ lease
  | 7 => common ++ lease ++ [(32, 8), (40, 8)]
  | 8 => common ++ [(32, 8), (40, 8)]
  | 9 => common ++ lease ++ [(64, 40)]
  | 10 => common ++ lease ++ [(60, 4)]
  | 11 => common ++ [(128, 32)]
  | _ => common

/-- The mask of the bits a code reads. -/
def readMask (code : Byte) : Beat :=
  (fieldsRead code).foldl (fun m f => m ||| BitVec.ofNat 256 ((2 ^ f.2 - 1) * 2 ^ f.1)) 0

/-- Some byte or bit the record's code does not read is not zero (R185, third check of R158). -/
def reservedNonzero (r : Beat) : Bool := r &&& ~~~ readMask (recordCode r) != 0

/-- The codes that use the lease id field (Table 10-1): all known codes but NOP, UNBIND_STREAM and SET_CAPACITY. -/
def usesLeaseField (code : Byte) : Bool := [1, 2, 3, 4, 5, 6, 7, 9, 10].contains code.toNat

/-- The lease id field holds no lease id the code takes: 64 to 254, or 255 (ANY) under a code other than OPEN_LEASE (R158). -/
def leaseFieldBad (r : Beat) : Bool :=
  usesLeaseField (recordCode r) && decide (64 ≤ (recordLeaseField r).toNat) &&
    !(recordLeaseField r == 255 && recordCode r == 1)

/-- The first, third and fourth checks of R158 on a record of a known code; `none` when they pass. -/
def recordRefusal (r : Beat) : Option CommandStatus :=
  if recordDoneMarker r ≠ 0 then some .badParam
  else if reservedNonzero r then some .badParam
  else if leaseFieldBad r then some .badParam
  else none

/-- The lease a checked record names. -/
def recordLease (r : Beat) : LeaseId := Fin.ofNat 64 (recordLeaseField r).toNat

/-- Classes are coded 0 GUARANTEED, 1 CAPPED, 2 SHARED (R184). -/
def classOfCode (c : Byte) : Option LeaseClass :=
  match c.toNat with
  | 0 => some .guaranteed
  | 1 => some .capped
  | 2 => some .shared
  | _ => none

/-- The code of a class (R184). -/
def LeaseClass.code : LeaseClass → Nat
  | .guaranteed => 0
  | .capped => 1
  | .shared => 2

/-- Fence access is coded 0 none, 1 READ, 2 WRITE, 3 READ_WRITE (R184). -/
def accessOfCode (c : BitVec 2) : Option Access :=
  match c.toNat with
  | 1 => some .read
  | 2 => some .write
  | 3 => some .readWrite
  | _ => none

/-- The code of an access (R184). -/
def Access.code : Access → Nat
  | .read => 1
  | .write => 2
  | .readWrite => 3

/-- The parameters of OPEN_LEASE as its record carries them (R160, Table 11-3), each at its full width. -/
structure OpenParams where
  classCode      : Byte
  k              : Nat
  holdLimit      : Nat
  overdraw       : Bool
  fencePresent   : Bool
  fenceAccess    : BitVec 2
  notify         : ReasonSet
  budget         : Nat
  carryLimit     : Nat
  term           : Nat
  reviewSpan     : Nat
  curbLength     : Nat
  watchThreshold : Nat
  fenceBase      : Nat
  fenceLimit     : Nat
  deriving DecidableEq, Repr

/-- The parameters of an OPEN_LEASE record. -/
def openParams (r : Beat) : OpenParams where
  classCode := byteAt r 4
  k := (byteAt r 5).toNat
  holdLimit := (byteAt r 6).toNat
  overdraw := (byteAt r 7).getLsbD 0
  fencePresent := (byteAt r 7).getLsbD 1
  fenceAccess := (byteAt r 7).extractLsb' 2 2
  notify := (byteAt r 7).extractLsb' 4 4
  budget := (halfAt r 8).toNat
  carryLimit := (halfAt r 10).toNat
  term := (halfAt r 12).toNat
  reviewSpan := (byteAt r 14).toNat
  curbLength := (byteAt r 15).toNat
  watchThreshold := (wordAt r 16).toNat
  fenceBase := (wordAt r 20).toNat
  fenceLimit := (wordAt r 24).toNat

/-- The parameters of RESIZE_LEASE (R163, Table 11-3). -/
structure ResizeParams where
  holdLimit      : Nat
  budget         : Nat
  carryLimit     : Nat
  reviewSpan     : Nat
  curbLength     : Nat
  watchThreshold : Nat
  deriving DecidableEq, Repr

/-- The parameters of a RESIZE_LEASE record. -/
def resizeParams (r : Beat) : ResizeParams where
  holdLimit := (byteAt r 6).toNat
  budget := (halfAt r 8).toNat
  carryLimit := (halfAt r 10).toNat
  reviewSpan := (byteAt r 14).toNat
  curbLength := (byteAt r 15).toNat
  watchThreshold := (wordAt r 16).toNat

/-- Bytes 12 to 13 of RENEW_LEASE: the periods (R165). -/
def renewPeriods (r : Beat) : Nat := (halfAt r 12).toNat

/-- Byte 4 of the binding commands: the port (R171). -/
def bindingPort (r : Beat) : Nat := (byteAt r 4).toNat

/-- Byte 5 of the binding commands: the stream tag (R171). -/
def bindingTag (r : Beat) : Nat := (byteAt r 5).toNat

/-- Bytes 8 to 12 of QUERY_LEASE: the snapshot address (R173). -/
def snapshotAddress (r : Beat) : Address := r.extractLsb' 64 40

/-- Bits 7:4 of byte 7 of ACK_ATTENTION: the reason mask (R175). -/
def reasonMask (r : Beat) : ReasonSet := (byteAt r 7).extractLsb' 4 4

/-- Bytes 16 to 19 of SET_CAPACITY: the value (R176). -/
def capacityValue (r : Beat) : Nat := (wordAt r 16).toNat

/-- A set of reasons as one byte: bits 7:4, bits 3:0 zero (R184). -/
def reasonByte (rs : ReasonSet) : Nat := rs.toNat * 16

/-! ### Completion records (R151, R186) -/

/-- The status byte of a completion record (R186). -/
def CommandStatus.code : CommandStatus → Nat
  | .ok => 0
  | .badCommand => 1
  | .badParam => 2
  | .reservedLease => 3
  | .noLease => 4
  | .inUse => 5
  | .notOpen => 6
  | .draining => 7
  | .tooLate => 8
  | .overCapacity => 9

/-- The completion record written over the slot (R186). -/
def completionRecord (c : InHand) : Beat :=
  packBeat [(0, 1, c.code.toNat), (2, 2, c.sequence.toNat), (4, 1, c.status.code), (8, 4, c.result.toNat), (31, 1, 1)]

/-! ### Query snapshots (R174, R187, Table 11-4) -/

/-- Lease states are coded 0 FREE, 1 OPEN, 2 SUSPENDED, 3 DRAINING (R187). -/
def LeaseState.code : LeaseState → Nat
  | .free => 0
  | .opened => 1
  | .suspended => 2
  | .draining => 3

/-- The drain cause is coded 0 absent, 1 RETIRED, 2 EXPIRED (R187). -/
def drainCauseCode : Option DrainCause → Nat
  | none => 0
  | some .retired => 1
  | some .expired => 2

/-- The regime is coded 0 WATCH, 1 CURB (R187). -/
def Regime.code : Regime → Nat
  | .watch => 0
  | .curb => 1

/-- Byte 7 of the snapshot: overdraw permitted, fence present, fence access and notify set, at the bits of command byte 7. -/
def snapshotFlags (r : Lease) : Nat :=
  (if r.overdrawPermitted then 1 else 0) + (match r.fence with | none => 0 | some f => 2 + 4 * f.access.code) + reasonByte r.notify

/-- The four beats of the snapshot of a lease record and its period position (Table 11-4). -/
def snapshotBeats (l : LeaseId) (r : Lease) (position : Nat) : List Beat :=
  [ packBeat
      [(0, 1, l.val), (1, 1, r.state.code), (2, 1, drainCauseCode r.drainCause), (3, 1, r.cls.code), (4, 1, r.k),
       (5, 1, r.holdLimit), (6, 1, r.heldCount), (7, 1, snapshotFlags r), (8, 2, r.budget), (10, 2, r.carryLimit),
       (12, 2, r.term), (14, 2, r.periodsRemaining), (16, 4, r.credit), (20, 4, r.spent), (24, 4, position),
       (28, 1, r.outstanding), (29, 1, r.boundSlots), (30, 1, reasonByte r.reasons)],
    packBeat
      [(0, 1, r.regime.code), (1, 1, r.reviewCounter), (2, 1, r.curbRemaining), (3, 1, r.reviewSpan), (4, 1, r.curbLength),
       (8, 4, r.watchThreshold), (12, 4, r.reviewAccumulator),
       (16, 4, match r.fence with | none => 0 | some f => f.base),
       (20, 4, match r.fence with | none => 0 | some f => f.limit)],
    packBeat
      [(0, 4, r.admittedBeats), (4, 4, r.overdrawBeats), (8, 4, r.heldTotal), (12, 4, r.refusedCount), (16, 4, r.faultCount)],
    0 ]

/-! ### Words of the management window (R181, Table 11-2) -/

/-- RING_BASE with the bits of RING_BASE_0 (31:12) or RING_BASE_1 (7:0, address bits 39:32) replaced; bits 11:0 stay zero
(R141). -/
def ringBaseWith (base : Address) (word : Fin 2) (value : Word) : Address :=
  if word = 0 then (base &&& 0xFF00000000#40) ||| ((value &&& 0xFFFFF000#32).zeroExtend 40)
  else (base &&& 0x00FFFFFFFF#40) ||| ((value.zeroExtend 40 &&& 0xFF#40) <<< 32)

/-- The slot counts RING_SIZE takes (R141). -/
def validRingSize (n : Nat) : Bool := [16, 32, 64, 128, 256].contains n

/-- The control codes of ENGINE_CONTROL (R182). -/
inductive Control where
  | none
  | start
  | stop
  | clearHalt
  | softReset
  | memoryPortReset
  | portReset (mask : Byte)
  deriving DecidableEq, Repr

/-- The control a written word names: bits 2:0 the code, bits 15:8 the port mask; codes 0 and 7 name none (R182). -/
def controlOf (value : Word) : Control :=
  match (value.extractLsb' 0 3).toNat with
  | 1 => .start
  | 2 => .stop
  | 3 => .clearHalt
  | 4 => .softReset
  | 5 => .memoryPortReset
  | 6 => .portReset (value.extractLsb' 8 8)
  | _ => .none

/-- The registers of Table 11-2. -/
inductive Register where
  | engineControl
  | engineState
  | fault
  | ringBase (word : Fin 2)
  | ringSize
  | submitIndex
  | completeIndex
  | intStatus
  | intEnable
  | completionMode
  | timebaseMhz
  | responseTimeout
  | stallLimit (port : PortId)
  | capacity
  | committed
  | attention (word : Fin 2)
  | poolFree
  | tags
  | link
  deriving DecidableEq, Repr

/-- The register at a byte offset of the window; `none` where Table 11-2 names none (R182). -/
def registerAt (offset : Word) : Option Register :=
  match offset.toNat with
  | 0x000 => some .engineControl
  | 0x004 => some .engineState
  | 0x008 => some .fault
  | 0x010 => some (.ringBase 0)
  | 0x014 => some (.ringBase 1)
  | 0x018 => some .ringSize
  | 0x01C => some .submitIndex
  | 0x020 => some .completeIndex
  | 0x028 => some .intStatus
  | 0x02C => some .intEnable
  | 0x030 => some .completionMode
  | 0x034 => some .timebaseMhz
  | 0x038 => some .responseTimeout
  | 0x040 => some (.stallLimit 0)
  | 0x044 => some (.stallLimit 1)
  | 0x048 => some (.stallLimit 2)
  | 0x04C => some (.stallLimit 3)
  | 0x050 => some (.stallLimit 4)
  | 0x054 => some (.stallLimit 5)
  | 0x058 => some (.stallLimit 6)
  | 0x05C => some (.stallLimit 7)
  | 0x060 => some .capacity
  | 0x064 => some .committed
  | 0x068 => some (.attention 0)
  | 0x06C => some (.attention 1)
  | 0x070 => some .poolFree
  | 0x074 => some .tags
  | 0x078 => some .link
  | _ => none

/-- ENGINE_STATE: bits 1:0 the state, bit 4 stop-pending, bits 10:8 the step, NONE outside BUSY (Table 11-2). -/
def engineStateWord : EngineState → Nat
  | .stopped => 0
  | .idle => 1
  | .busy step _ stopPending =>
    2 + (if stopPending then 16 else 0) +
      256 * (match step with | .fetch => 1 | .snapshot _ _ _ => 3 | .completion _ => 4)
  | .halted => 3

/-- FAULT: bits 7:0 the slot, bits 10:8 the step, bits 13:12 the cause (Table 11-2). -/
def faultWord (f : FaultRecord) : Nat :=
  f.slot + 256 * (match f.step with | .none => 0 | .fetch => 1 | .snapshot => 3 | .completion => 4) +
    4096 * (match f.cause with | .none => 0 | .memoryError => 1 | .timeout => 2 | .memoryAbort => 3)

/-- The number of ISSUED tags (R124). -/
def issuedCount (s : State) : Nat := s.tags.toList.countP fun t => match t with | .issued _ => true | _ => false

/-- The number of ORPHANED tags (R124). -/
def orphanedCount (s : State) : Nat := s.tags.toList.countP fun t => match t with | .orphaned => true | _ => false

/-- The contents of a register as a read returns them (R181, R182). -/
def readRegister (s : State) : Register → Word
  | .engineControl => 0
  | .engineState => BitVec.ofNat 32 (engineStateWord s.engine.state)
  | .fault => BitVec.ofNat 32 (faultWord s.engine.fault)
  | .ringBase w => if w = 0 then s.engine.ringBase.extractLsb' 0 32 else (s.engine.ringBase.extractLsb' 32 8).zeroExtend 32
  | .ringSize => BitVec.ofNat 32 s.engine.ringSize
  | .submitIndex => BitVec.ofNat 32 s.engine.submit
  | .completeIndex => BitVec.ofNat 32 s.engine.complete
  | .intStatus => s.intStatus.zeroExtend 32
  | .intEnable => s.intEnable.zeroExtend 32
  | .completionMode => match s.engine.completionMode with | .each => 0 | .caughtUp => 1
  | .timebaseMhz => BitVec.ofNat 32 s.timebase.mhz
  | .responseTimeout => BitVec.ofNat 32 s.responseTimeout
  | .stallLimit p => BitVec.ofNat 32 s.ports[p.val].stallLimit
  | .capacity => BitVec.ofNat 32 s.capacity
  | .committed => BitVec.ofNat 32 s.committed
  | .attention w => if w = 0 then s.attention.extractLsb' 0 32 else s.attention.extractLsb' 32 32
  | .poolFree => BitVec.ofNat 32 s.poolFree
  | .tags => BitVec.ofNat 32 (issuedCount s + 256 * orphanedCount s)
  | .link => match s.link with | .down => 0 | .up => 1

/-- A read of the management window: the register's contents, 0 at an offset that names none; a read changes nothing (R182). -/
def windowRead (s : State) (offset : Word) : Word :=
  match registerAt offset with
  | some r => readRegister s r
  | none => 0

end Sys2Proof.Machine
end

