-- ==== Sys2Proof/Machine/Ops.lean ====
section
/-!
DEFINITION. The named operations over the controller's state that the commands share: reads and writes of each table, the
triggers (R72, R103, R112, R114), responses (R78), reasons (R10), falls of outstanding with drain completion (R19, R123), drain
start (R16), the claims of admission (Section 6), and the engine's halt (R153).
-/

namespace Sys2Proof.Machine

/-! ### Tables -/

/-- A table of `n` entries given by index. -/
def tabulate {α : Type} {n : Nat} (f : Fin n → α) : Vector α n := ⟨⟨List.ofFn f⟩, by simp⟩

/-- The lease record of an id (R1). -/
def State.lease (s : State) (l : LeaseId) : Lease := s.leases[l.val]

/-- Replaces the lease record of an id. -/
def State.setLease (s : State) (l : LeaseId) (r : Lease) : State := { s with leases := s.leases.set l.val r }

/-- The period timer of a lease id (R28). -/
def State.timer (s : State) (l : LeaseId) : PeriodTimer := s.timers[l.val]

/-- Replaces the period timer of a lease id. -/
def State.setTimer (s : State) (l : LeaseId) (t : PeriodTimer) : State := { s with timers := s.timers.set l.val t }

/-- The unit of a client port (R67). -/
def State.port (s : State) (p : PortId) : Port := s.ports[p.val]

/-- Replaces the unit of a client port. -/
def State.setPort (s : State) (p : PortId) (u : Port) : State := { s with ports := s.ports.set p.val u }

/-- The position of a stream slot in the map. -/
def slotIndex (p : PortId) (t : StreamTag) : Fin 128 := ⟨p.val * 16 + t.val, by omega⟩

/-- The stream slot (port, stream tag) (R83). -/
def State.slot (s : State) (p : PortId) (t : StreamTag) : Option LeaseId := s.streams[(slotIndex p t).val]

/-- Replaces a stream slot. -/
def State.setSlot (s : State) (p : PortId) (t : StreamTag) (b : Option LeaseId) : State :=
  { s with streams := s.streams.set (slotIndex p t).val b }

/-- The hold queue of a lease (R109). -/
def State.holdQueue (s : State) (l : LeaseId) : List HeldEntry := s.holdQueues[l.val]

/-- Replaces the hold queue of a lease. -/
def State.setHoldQueue (s : State) (l : LeaseId) (q : List HeldEntry) : State :=
  { s with holdQueues := s.holdQueues.set l.val q }

/-- The release state of a lease (R112). -/
def State.release (s : State) (l : LeaseId) : ReleaseState := s.releases[l.val]

/-- Replaces the release state of a lease. -/
def State.setRelease (s : State) (l : LeaseId) (r : ReleaseState) : State := { s with releases := s.releases.set l.val r }

/-- A tag of the tag table (R124). -/
def State.tag (s : State) (t : TagId) : Tag := s.tags[t.val]

/-- Replaces a tag. -/
def State.setTag (s : State) (t : TagId) (v : Tag) : State := { s with tags := s.tags.set t.val v }

/-- Replaces the free count of the hold pool (R107). -/
def State.setPoolFree (s : State) (n : Nat) : State := { s with poolFree := n }

/-- Replaces the committed sum (R58). -/
def State.setCommitted (s : State) (n : Nat) : State := { s with committed := n }

/-- Replaces the engine's state (R143). -/
def State.setEngineState (s : State) (e : EngineState) : State := { s with engine := { s.engine with state := e } }

/-! ### Responses -/

/-- Sends a response on a client link (R78). -/
def sendResponse (p : PortId) (id : Byte) (status : ClientStatus) (data : List Beat) (s : State) : State :=
  { s with sent := s.sent ++ [{ port := p, clientId := id, status := status, data := data }] }

/-- Answers the request under an ISSUED tag on its origin port, unless the tag is muted; an engine request is answered to no
port (R79, R131, R140). -/
def answerTag (f : IssuedTag) (status : ClientStatus) (data : List Beat) (s : State) : State :=
  match f.origin with
  | .client p id => if f.muted then s else sendResponse p id status data s
  | .engine => s

/-! ### Triggers -/

/-- A trigger is handed to the port unit (R72). -/
def Port.hand (u : Port) : Port := { u with triggers := u.triggers + 1 }

/-- The port unit takes the triggers handed to it but for the last `left`: a BLOCKED head becomes EXAMINING, its timer and examined
lease kept; an IDLE or EXAMINING head is not changed (R72). -/
def Port.takeTriggers (u : Port) (left : Nat) : Port :=
  if u.triggers ≤ left then u
  else { u with
    triggers := left
    head := match u.head with
      | .blocked => .examining
      | .idle => .idle
      | .examining => .examining }

/-- The port units take, each as a claim of its own, the triggers that have reached them before a claim that reads the port heads;
those that `delayed` names for that claim are taken later (R72, entry 7). -/
def takeTriggers (s : State) : State :=
  { s with
    ports := tabulate fun p => (s.port p).takeTriggers ((s.delayed.headD []).count p)
    delayed := s.delayed.tail }

/-- A PAUSED release becomes RUNNING (R114). -/
def ReleaseState.retrigger : ReleaseState → ReleaseState
  | .paused => .running
  | .idle => .idle
  | .running => .running

/-- A WAITING engine request returns to PRESENTED (R103). -/
def EngineState.retrigger : EngineState → EngineState
  | .busy step .waiting stopPending => .busy step .presented stopPending
  | e => e

/-- One re-examination trigger, handed to the port units, the engine's request and every PAUSED release in the claim of the event
(R72, R103, R114). A port unit takes it later (`takeTriggers`); the engine's request and the releases return at once (entry 7). -/
def handTrigger (s : State) : State :=
  { s with
    ports := tabulate fun p => (s.port p).hand
    releases := tabulate fun l => (s.release l).retrigger
    engine := { s.engine with state := s.engine.state.retrigger } }

/-- One trigger when something changed, none otherwise. -/
def handTriggerIf (changed : Bool) (s : State) : State := if changed then handTrigger s else s

/-- A release trigger of a lease (R112, Table 7-2): an OPEN lease with a held entry has its release RUNNING. -/
def releaseTrigger (l : LeaseId) (s : State) : State :=
  if (s.lease l).state = .opened ∧ s.holdQueue l ≠ [] then s.setRelease l .running else s

/-! ### Reasons, faults, outstanding -/

/-- Raises a reason on a lease (R10, R178): it joins the reason set if the notify set holds it, and a lease whose reason set was
empty joins the attention set. -/
def raiseReason (l : LeaseId) (r : Reason) (s : State) : State :=
  if (s.lease l).notify &&& r.mask = 0 then s
  else if (s.lease l).reasons = 0 then
    joinAttention l (s.setLease l { s.lease l with reasons := r.mask })
  else s.setLease l { s.lease l with reasons := (s.lease l).reasons ||| r.mask }

/-- Counts a memory fault on a lease and raises FAULT (R8, R130). -/
def countFault (l : LeaseId) (s : State) : State :=
  raiseReason l .fault (s.setLease l (s.lease l).countFault)

/-- Drain completion (R19): the lease becomes FREE with its working fields cleared and its sets kept, its period timer count
becomes 0 (R28), and FREED is raised. -/
def drainCompletion (l : LeaseId) (s : State) : State :=
  raiseReason l .freed
    ((s.setLease l (Lease.freeRecord (s.lease l).notify (s.lease l).reasons)).setTimer l
      { s.timer l with count := 0, running := false })

/-- Drain completion when the lease is DRAINING with outstanding 0 (R19). -/
def completeIfDrained (l : LeaseId) (s : State) : State :=
  if (s.lease l).state = .draining ∧ (s.lease l).outstanding = 0 then drainCompletion l s else s

/-- A fall of outstanding (R123), with the test of drain completion (R19). None is taken at outstanding 0 (R20). -/
def fallOutstanding (l : LeaseId) (s : State) : State :=
  if (s.lease l).outstanding = 0 then s
  else completeIfDrained l (s.setLease l { s.lease l with outstanding := (s.lease l).outstanding - 1 })

/-! ### Drain start (R16) -/

/-- Step 2: every slot naming the lease becomes UNBOUND, and its bound-slot count 0 (R87). -/
def unbindAll (l : LeaseId) (s : State) : State :=
  let s1 := { s with streams := tabulate fun i : Fin 128 => if s.streams[i.val] = some l then none else s.streams[i.val] }
  s1.setLease l { s1.lease l with boundSlots := 0 }

/-- REFUSED_RETIRED for each held entry, in order. -/
def refuseRetired (q : List HeldEntry) (s : State) : State :=
  q.foldl (fun s e => sendResponse e.port e.clientId .refusedRetired [] s) s

/-- Step 3: every held request is refused REFUSED_RETIRED in join order, its slot freed, the held count brought to 0, the release
made IDLE (R116). -/
def refuseHeld (l : LeaseId) (s : State) : State :=
  let q := s.holdQueue l
  let s1 := refuseRetired q s
  let s2 := s1.setLease l (((s1.lease l).countRefusals q.length).unhold q.length)
  ((s2.setHoldQueue l []).setRelease l .idle).setPoolFree (s2.poolFree + q.length)

/-- Step 4: a GUARANTEED lease's rate leaves the committed sum (R64). -/
def releaseCommitment (l : LeaseId) (s : State) : State :=
  if (s.lease l).cls = .guaranteed then s.setCommitted (s.committed - (s.lease l).rate) else s

/-- Drain start on a lease (R16), with drain completion when outstanding is 0, and one re-examination trigger when a slot was
unbound or a held request refused. Step 5 stops the timer, which keeps its count, and discards raised period ends (R28, R29). -/
def drainStart (l : LeaseId) (cause : DrainCause) (s : State) : State :=
  let changed := s.streams.toList.contains (some l) || !(s.holdQueue l).isEmpty
  let s1 := s.setLease l { s.lease l with state := .draining, drainCause := some cause }
  let s2 := releaseCommitment l (refuseHeld l (unbindAll l s1))
  let s3 := s2.setTimer l { s2.timer l with running := false, raised := 0 }
  let s4 := match cause with
    | .expired => raiseReason l .expired s3
    | .retired => s3
  handTriggerIf changed (completeIfDrained l s4)

/-! ### Client ports -/

/-- A request joins the FIFO at its tail and becomes head of an empty one (R69, R70). -/
def Port.accept (u : Port) (r : PortRequest) : Port :=
  match u.fifo with
  | [] => { u with fifo := [r], head := .examining, stallTimer := 0, examined := none }
  | q => { u with fifo := q ++ [r] }

/-- Requests waiting on the link are accepted in order while the FIFO holds fewer than 8 (R69). -/
def acceptWaiting : List PortRequest → Port → Port
  | [], u => { u with link := [] }
  | r :: rest, u =>
    if u.fifo.length < Config.fifoDepth then acceptWaiting rest (u.accept r) else { u with link := r :: rest }

/-- The port accepts from its link what it has room for (R69, entry 12). -/
def Port.settle (u : Port) : Port := acceptWaiting u.link u

/-- A request reaches the port on its link: accepted, or held back until there is room (R69). -/
def Port.arrive (u : Port) (r : PortRequest) : Port := { u with link := u.link ++ [r] }.settle

/-- The head leaves the FIFO: the next request becomes head, EXAMINING, or the port becomes IDLE (R70). -/
def Port.dropHead (u : Port) : Port :=
  { u with
    fifo := u.fifo.tail
    head := if u.fifo.tail = [] then .idle else .examining
    stallTimer := 0
    examined := none }

/-- The head leaves, and the link delivers a request that was held back (R69, R76). -/
def Port.depart (u : Port) : Port := u.dropHead.settle

/-- The FIFO is emptied and the port IDLE; the stall limit and the link are kept (R80, R82). -/
def Port.flush (u : Port) : Port := { u with fifo := [], head := .idle, stallTimer := 0, examined := none }

/-- The port's ready line: it accepts a request (R69, 11.5). -/
def Port.ready (u : Port) : Bool := decide (u.fifo.length < Config.fifoDepth)

/-- The head of a port leaves its FIFO. -/
def departPort (p : PortId) (s : State) : State := s.setPort p (s.port p).depart

/-- A refused head leaves, and the response is sent (R71). -/
def refuseHead (p : PortId) (r : PortRequest) (status : ClientStatus) (s : State) : State :=
  departPort p (sendResponse p r.clientId status [] s)

/-! ### Dispatch queues -/

/-- The two dispatch queues (R121). -/
inductive QueueName where
  | g
  | s
  deriving DecidableEq, Repr

/-- The entries of a dispatch queue. -/
def State.queue (s : State) : QueueName → List DispatchEntry
  | .g => s.gQueue
  | .s => s.sQueue

/-- A dispatch queue has a free entry (R121). -/
def State.queueFree (s : State) (q : QueueName) : Bool := decide ((s.queue q).length < Config.queueDepth)

/-- Places an entry at the tail of a queue (R121). -/
def State.place (s : State) (q : QueueName) (e : DispatchEntry) : State :=
  match q with
  | .g => { s with gQueue := s.gQueue ++ [e] }
  | .s => { s with sQueue := s.sQueue ++ [e] }

/-- The target queue of a charged request (Table 1-2, R100). -/
def Lease.target (r : Lease) : QueueName :=
  match r.cls with
  | .guaranteed => .g
  | .capped => .s
  | .shared => .s

/-- Charges a lease and places the entry in its target queue (R100). -/
def chargeAndPlace (e : DispatchEntry) (s : State) : State :=
  (s.setLease e.lease ((s.lease e.lease).charge e.length)).place (s.lease e.lease).target e

/-- Sends an entry as overdraw: uncharged, into the S queue (R97). -/
def overdrawAndPlace (e : DispatchEntry) (s : State) : State :=
  (s.setLease e.lease ((s.lease e.lease).overdraw e.length)).place .s e

/-! ### Engine -/

/-- The slot after a slot of the ring (R142). -/
def Engine.next (e : Engine) (i : Nat) : Nat := (i + 1) % e.ringSize

/-- The byte address of a slot: ring base plus 32 × i, modulo 2^40 (R141). -/
def Engine.slotAddress (e : Engine) (i : Nat) : Address := e.ringBase + BitVec.ofNat 40 (32 * i)

/-- The number of pending commands (R142). -/
def Engine.pendingCount (e : Engine) : Nat :=
  if e.fetch ≤ e.submit then e.submit - e.fetch else e.submit + e.ringSize - e.fetch

/-- A command is pending (R142). -/
def Engine.hasPending (e : Engine) : Bool := decide (0 < e.pendingCount)

/-- BUSY at the fetch step, its request presented (R143, R147). -/
def beginFetch (stopPending : Bool) : EngineState := .busy .fetch .presented stopPending

/-- The memory access of a step (R145): direction, address, length and data. -/
def Engine.access (e : Engine) : EngineStep → Direction × Address × Nat × List Beat
  | .fetch => (.read, e.slotAddress e.fetch, 1, [])
  | .snapshot _ address beats => (.write, address, 4, beats)
  | .completion command => (.write, e.slotAddress e.complete, 1, [completionRecord command])

/-- The step as the fault record names it (R153). -/
def EngineStep.faultStep : EngineStep → FaultStep
  | .fetch => .fetch
  | .snapshot _ _ _ => .snapshot
  | .completion _ => .completion

/-- The halt of the engine (R153): fault record, fetch index back to the complete index, HALTED, stop-pending cleared, HALT set.
It is made on a command in hand, in BUSY. -/
def haltEngine (cause : FaultCause) (s : State) : State :=
  match s.engine.state with
  | .busy step _ _ =>
    setSource .halt { s with
      engine := { s.engine with
        state := .halted
        fetch := s.engine.complete
        fault := { slot := s.engine.complete, step := step.faultStep, cause := cause } } }
  | .stopped => s
  | .idle => s
  | .halted => s

/-- The engine halts when the tag that ended was its own (R140). -/
def haltIfEngine (f : IssuedTag) (cause : FaultCause) (s : State) : State :=
  match f.origin with
  | .engine => haltEngine cause s
  | .client _ _ => s

/-- A fault ends an ISSUED tag (R130, R133): the client is answered, the fault counted, the tag becomes FREE or ORPHANED,
outstanding falls, and the engine halts when the tag was its own. -/
def faultTag (t : TagId) (f : IssuedTag) (status : ClientStatus) (cause : FaultCause) (after : Tag) (s : State) : State :=
  haltIfEngine f cause (fallOutstanding f.lease ((countFault f.lease (answerTag f status [] s)).setTag t after))

end Sys2Proof.Machine
end

