-- ==== Sys2Proof/Machine/Admission.lean ====
section
/-!
DEFINITION. Request arrival (R69) and the admission unit (Section 6): the ring of 72 positions, the examination of port heads,
released entries and engine requests.
-/

namespace Sys2Proof.Machine

/-- REQUEST_ARRIVAL (R68, R69): a whole request reaches the port on its link and is accepted, or held back while the FIFO is full.
A request whose data beats have not all arrived is not taken yet (R68, entry 16). -/
def execRequestArrival (p : PortId) (r : PortRequest) (s : State) : Host.Outcome State Fault Refusal :=
  if r.data.length = (match r.direction with
      | .read => 0
      | .write => if 1 ≤ r.length.val ∧ r.length.val ≤ 16 then r.length.val else 0)
  then .next (s.setPort p ((s.port p).arrive r))
  else .next s

/-! ### The ring -/

/-- What stands at a position of the ring (R89). -/
inductive RingItem where
  | port (p : PortId)
  | engine
  | release (l : LeaseId)
  deriving DecidableEq, Repr

/-- The ring of R89: P0 to P7, the engine, the releases of leases 1 to 63. -/
def ringItem (i : Fin 72) : RingItem :=
  if h : i.val < 8 then .port ⟨i.val, h⟩
  else if i.val = 8 then .engine
  else .release ⟨i.val - 8, by omega⟩

/-- The engine presents a request (R102). -/
def EngineState.presents : EngineState → Bool
  | .busy _ .presented _ => true
  | _ => false

/-- The position has an item presented (R89). -/
def waiting (s : State) (i : Fin 72) : Bool :=
  match ringItem i with
  | .port p => decide ((s.port p).head = .examining) && !(s.port p).fifo.isEmpty
  | .engine => s.engine.state.presents
  | .release l => decide (s.release l = .running) && !(s.holdQueue l).isEmpty

/-- The ring read from the position after the last-served one. -/
def ringFrom (last : Fin 72) : List (Fin 72) := (List.finRange 72).map fun d => last + d + 1

/-- The first waiting position that follows the last-served position (R90). -/
def nextServed (s : State) : Option (Fin 72) := (ringFrom s.lastServed).find? (waiting s)

/-! ### Port heads -/

/-- The form stage (R92). -/
def formOk (r : PortRequest) : Bool :=
  decide (1 ≤ r.length.val) && decide (r.length.val ≤ 16) && decide (r.address.toNat % 32 = 0) &&
    decide (r.address.toNat % 4096 + 32 * r.length.val ≤ 4096)

/-- How the examination of a port head ends (Table 6-3). -/
inductive PortOutcome where
  /-- REFUSED_FORM or REFUSED_UNBOUND: no lease is counted. -/
  | refuse (status : ClientStatus)
  /-- REFUSED_FENCE or REFUSED_OVERSIZE: counted on the lease. -/
  | refuseCounted (l : LeaseId) (status : ClientStatus)
  | overdraw (l : LeaseId)
  | hold (l : LeaseId)
  | block (l : LeaseId)
  | charge (l : LeaseId)
  deriving DecidableEq, Repr

/-- A head that must wait joins the hold queue when the held count is below the hold limit and the pool has a free slot, and is
blocked otherwise (R98, R111). -/
def waitOutcome (s : State) (l : LeaseId) : PortOutcome :=
  if (s.lease l).heldCount < (s.lease l).holdLimit ∧ 0 < s.poolFree then .hold l else .block l

/-- The stages after the lookup: fence, oversize, hold test, charge (R94 to R100). -/
def leaseOutcome (s : State) (l : LeaseId) (r : PortRequest) : PortOutcome :=
  let lease := s.lease l
  let length := r.length.val
  if !lease.fenceAdmits r.address r.direction then .refuseCounted l .refusedFence
  else if lease.oversize length then .refuseCounted l .refusedOversize
  else if lease.state = .suspended ∨ 0 < lease.heldCount then waitOutcome s l
  else if lease.creditShort length then
    if lease.overdrawPermitted then (if s.queueFree .s then .overdraw l else .block l) else waitOutcome s l
  else if s.queueFree lease.target then .charge l else .block l

/-- The examination of a port head: form, lookup, and the lease's stages (R92, R93). -/
def portOutcome (s : State) (p : PortId) (r : PortRequest) : PortOutcome :=
  if !formOk r then .refuse .refusedForm
  else match s.slot p r.tag with
    | none => .refuse .refusedUnbound
    | some l => leaseOutcome s l r

/-- The dispatch entry of a port request (R100). -/
def entryOfRequest (p : PortId) (l : LeaseId) (r : PortRequest) : DispatchEntry where
  lease := l
  origin := .client p r.clientId
  direction := r.direction
  address := r.address
  length := r.length.val
  data := r.data

/-- The held entry of a port request (R108). -/
def heldOfRequest (p : PortId) (r : PortRequest) : HeldEntry where
  port := p
  clientId := r.clientId
  direction := r.direction
  address := r.address
  length := r.length.val
  data := r.data

/-- The hold join (R111). -/
def holdJoin (p : PortId) (l : LeaseId) (r : PortRequest) (s : State) : State :=
  ((s.setLease l (s.lease l).join).setHoldQueue l (s.holdQueue l ++ [heldOfRequest p r])).setPoolFree (s.poolFree - 1)

/-- A block (R99): the head is BLOCKED with its timer kept, and the examined lease recorded. -/
def blockHead (p : PortId) (l : LeaseId) (s : State) : State :=
  s.setPort p { s.port p with head := .blocked, examined := some l }

/-- The outcome is taken on the port's head, the lease, the queues and the pool (R71, Table 6-3). -/
def applyPortOutcome (p : PortId) (r : PortRequest) (o : PortOutcome) (s : State) : State :=
  match o with
  | .refuse status => refuseHead p r status s
  | .refuseCounted l status => refuseHead p r status (s.setLease l ((s.lease l).countRefusals 1))
  | .overdraw l => departPort p (overdrawAndPlace (entryOfRequest p l r) s)
  | .hold l => departPort p (holdJoin p l r s)
  | .block l => blockHead p l s
  | .charge l => departPort p (chargeAndPlace (entryOfRequest p l r) s)

/-- The examination of the head of a port (R91). -/
def examinePort (p : PortId) (s : State) : State :=
  match (s.port p).fifo with
  | [] => s
  | r :: _ => applyPortOutcome p r (portOutcome s p r) s

/-- PORT_HEAD_EXAMINATION (R90, R91): the unit serves the first waiting position after the last-served one when that is a port;
the ports have taken the triggers that reached them before (R72, entry 7). -/
def execPortHeadExamination (s : State) : Host.Outcome State Fault Refusal :=
  let s0 := takeTriggers s
  match nextServed s0 with
  | none => .next s0
  | some i =>
    match ringItem i with
    | .port p => .next (examinePort p { s0 with lastServed := i })
    | .engine => .next s0
    | .release _ => .next s0

/-! ### Released entries -/

/-- How the examination of a released entry ends (R101, R113): PLACED by charge or as overdraw, REFUSED, STOP or PAUSE. -/
inductive ReleaseOutcome where
  | placed
  | placedOverdraw
  | refused
  | stop
  | pause
  deriving DecidableEq, Repr

/-- The steps of R101. -/
def releaseOutcome (s : State) (l : LeaseId) (e : HeldEntry) : ReleaseOutcome :=
  let lease := s.lease l
  if lease.state ≠ .opened then .stop
  else if lease.oversize e.length then .refused
  else if lease.creditShort e.length then
    if lease.overdrawPermitted then (if s.queueFree .s then .placedOverdraw else .pause) else .stop
  else if s.queueFree lease.target then .placed else .pause

/-- The dispatch entry of a held entry (R113). -/
def entryOfHeld (l : LeaseId) (e : HeldEntry) : DispatchEntry where
  lease := l
  origin := .client e.port e.clientId
  direction := e.direction
  address := e.address
  length := e.length
  data := e.data

/-- The entry leaves the head of the hold queue (R113): slot freed, held count lowered, the release RUNNING or, on an empty queue,
IDLE, and one re-examination trigger handed. -/
def leaveHoldQueue (l : LeaseId) (s : State) : State :=
  let q := (s.holdQueue l).tail
  let s1 := ((s.setLease l ((s.lease l).unhold 1)).setHoldQueue l q).setPoolFree (s.poolFree + 1)
  handTrigger (s1.setRelease l (if q = [] then .idle else .running))

/-- The outcome is taken on the hold queue (R113). -/
def applyReleaseOutcome (l : LeaseId) (e : HeldEntry) (o : ReleaseOutcome) (s : State) : State :=
  match o with
  | .placed => leaveHoldQueue l (chargeAndPlace (entryOfHeld l e) s)
  | .placedOverdraw => leaveHoldQueue l (overdrawAndPlace (entryOfHeld l e) s)
  | .refused =>
    leaveHoldQueue l (sendResponse e.port e.clientId .refusedOversize [] (s.setLease l ((s.lease l).countRefusals 1)))
  | .stop => s.setRelease l .idle
  | .pause => s.setRelease l .paused

/-- The examination of the head entry of a running release (R101). -/
def examineRelease (l : LeaseId) (s : State) : State :=
  match s.holdQueue l with
  | [] => s
  | e :: _ => applyReleaseOutcome l e (releaseOutcome s l e) s

/-- RELEASED_ENTRY_EXAMINATION (R90, R113), after the ports have taken the triggers that reached them (R72, entry 7). -/
def execReleasedEntryExamination (s : State) : Host.Outcome State Fault Refusal :=
  let s0 := takeTriggers s
  match nextServed s0 with
  | none => .next s0
  | some i =>
    match ringItem i with
    | .release l => .next (examineRelease l { s0 with lastServed := i })
    | .port _ => .next s0
    | .engine => .next s0

/-! ### Engine requests -/

/-- The dispatch entry of the engine's access (R102): lease 0, engine flag set, no origin port. -/
def engineEntry (e : Engine) (step : EngineStep) : DispatchEntry :=
  let a := e.access step
  { lease := 0, origin := .engine, direction := a.1, address := a.2.1, length := a.2.2.1, data := a.2.2.2 }

/-- The examination of the engine's request (R102): charged to lease 0 and placed in the G queue, or WAITING. -/
def examineEngine (s : State) : State :=
  match s.engine.state with
  | .busy step _ stopPending =>
    let entry := engineEntry s.engine step
    if (s.lease 0).creditShort entry.length then s.setEngineState (.busy step .waiting stopPending)
    else if !s.queueFree .g then s.setEngineState (.busy step .waiting stopPending)
    else ((s.setLease 0 ((s.lease 0).charge entry.length)).place .g entry).setEngineState (.busy step .placed stopPending)
  | .stopped => s
  | .idle => s
  | .halted => s

/-- ENGINE_REQUEST_EXAMINATION (R90, R102), after the ports have taken the triggers that reached them (R72, entry 7). -/
def execEngineRequestExamination (s : State) : Host.Outcome State Fault Refusal :=
  let s0 := takeTriggers s
  match nextServed s0 with
  | none => .next s0
  | some i =>
    match ringItem i with
    | .engine => .next (examineEngine { s0 with lastServed := i })
    | .port _ => .next s0
    | .release _ => .next s0

end Sys2Proof.Machine
end

