-- ==== Sys2Proof/Machine/Commands.lean ====
section
/-!
DEFINITION. The twelve lease commands and the unknown code (Section 10), as the command engine takes them: what each checks,
changes and returns (`take…`), the execute step (R147, R148), and the meanings of the command rows. A command is executed
only within the claim that takes the OK answer to the engine's fetch (R143, R147), so a row's meaning is that claim with the
row's record (entry 6).
-/

namespace Sys2Proof.Machine

/-- What the execute step of a command decides: status and result for the completion record (R148), the snapshot a QUERY_LEASE
will write (R149), and the state with the command's effects. -/
structure Taken where
  status   : CommandStatus
  result   : Word
  snapshot : Option (Address × List Beat)
  state    : State
  deriving DecidableEq, Repr

/-- A refused command: no effect, result 0 (R158). -/
def refuseCommand (status : CommandStatus) (s : State) : Taken := { status := status, result := 0, snapshot := none, state := s }

/-- A command taken OK. -/
def okCommand (result : Nat) (s : State) : Taken :=
  { status := .ok, result := BitVec.ofNat 32 result, snapshot := none, state := s }

/-- A command refused OVER_CAPACITY whose result is the committed sum as it stands (R61, R62). -/
def overCapacity (s : State) : Taken :=
  { status := .overCapacity, result := BitVec.ofNat 32 s.committed, snapshot := none, state := s }

/-! ### NOP and unknown codes -/

/-- NOP (R177). -/
def takeNop (r : Beat) (s : State) : Taken :=
  match recordRefusal r with
  | some status => refuseCommand status s
  | none => okCommand 0 s

/-- A record whose code is none of the twelve (R148, R158): the done marker is checked first. -/
def takeUnknown (r : Beat) (s : State) : Taken :=
  if recordDoneMarker r ≠ 0 then refuseCommand .badParam s else refuseCommand .badCommand s

/-! ### OPEN_LEASE (R159 to R161) -/

/-- A lease OPEN_LEASE may open: FREE with an empty reason set (R159). -/
def Lease.openable (r : Lease) : Bool := decide (r.state = .free) && decide (r.reasons = 0)

/-- The lease OPEN_LEASE opens, or the refusal (R159): a named id, or for 255 (ANY) the lowest eligible id from 1 to 63. -/
def chooseLease (s : State) (field : Byte) : Except CommandStatus LeaseId :=
  if field = 255 then
    match (List.finRange 64).find? fun l => decide (l ≠ 0) && (s.lease l).openable with
    | some l => .ok l
    | none => .error .noLease
  else
    let l : LeaseId := Fin.ofNat 64 field.toNat
    if l = 0 then .error .reservedLease
    else match (s.lease l).state with
      | .free => if (s.lease l).reasons = 0 then .ok l else .error .inUse
      | .draining => .error .draining
      | .opened => .error .inUse
      | .suspended => .error .inUse

/-- The class and fence of an OPEN_LEASE whose parameters lie in the ranges of Table 10-3 (R160). -/
def checkOpen (p : OpenParams) : Option (LeaseClass × Option Fence) :=
  match classOfCode p.classCode with
  | none => none
  | some c =>
    if 12 < p.k ∨ p.budget = 0 ∨ Config.holdLimitMax < p.holdLimit then none
    else if !openClassRanges c p.budget p.carryLimit p.overdraw p.watchThreshold p.reviewSpan p.curbLength then none
    else match openFence p.fencePresent p.fenceBase p.fenceLimit (accessOfCode p.fenceAccess) (decide (p.fenceAccess = 0)) with
      | none => none
      | some f => some (c, f)

/-- The opened record (R161, steps 1 to 5). -/
def Lease.opening (r : Lease) (c : LeaseClass) (f : Option Fence) (p : OpenParams) : Lease where
  state := .opened
  drainCause := none
  cls := c
  k := p.k
  budget := p.budget
  carryLimit := p.carryLimit
  credit := p.budget
  spent := 0
  term := p.term
  periodsRemaining := p.term
  holdLimit := p.holdLimit
  heldCount := r.heldCount
  overdrawPermitted := p.overdraw
  fence := f
  watchThreshold := p.watchThreshold
  reviewSpan := p.reviewSpan
  curbLength := p.curbLength
  regime := .watch
  reviewAccumulator := 0
  reviewCounter := p.reviewSpan
  curbRemaining := 0
  outstanding := r.outstanding
  admittedBeats := 0
  overdrawBeats := 0
  heldTotal := 0
  refusedCount := 0
  faultCount := 0
  notify := p.notify
  reasons := r.reasons
  boundSlots := r.boundSlots

/-- The changes of an OPEN_LEASE that passes its checks (R161). -/
def openLeaseAt (l : LeaseId) (c : LeaseClass) (f : Option Fence) (p : OpenParams) (s : State) : State :=
  let s1 := (s.setLease l ((s.lease l).opening c f p)).setTimer l { count := 0, running := true, raised := 0 }
  if c = .guaranteed then s1.setCommitted (s1.committed + rateOf p.budget p.k) else s1

/-- OPEN_LEASE (R158 to R161, R60). -/
def takeOpenLease (r : Beat) (s : State) : Taken :=
  match recordRefusal r with
  | some status => refuseCommand status s
  | none =>
    match chooseLease s (recordLeaseField r) with
    | .error status => refuseCommand status s
    | .ok l =>
      match checkOpen (openParams r) with
      | none => refuseCommand .badParam s
      | some (c, f) =>
        if c = .guaranteed ∧ s.capacity < s.committed + rateOf (openParams r).budget (openParams r).k then
          refuseCommand .overCapacity s
        else okCommand l.val (openLeaseAt l c f (openParams r) s)

/-! ### RESIZE_LEASE (R163, R164) -/

/-- The committed sum with a GUARANTEED lease's rate replaced by the rate of a new budget (R61). -/
def committedWith (s : State) (l : LeaseId) (budget : Nat) : Nat :=
  s.committed + rateOf budget (s.lease l).k - (s.lease l).rate

/-- The changes of a RESIZE_LEASE that passes its checks (R164). -/
def resizeLeaseAt (l : LeaseId) (p : ResizeParams) (s : State) : State :=
  let old := s.lease l
  let s1 := if old.cls = .guaranteed then s.setCommitted (committedWith s l p.budget) else s
  let s2 := s1.setLease l (old.resize p.budget p.carryLimit p.holdLimit p.watchThreshold p.reviewSpan p.curbLength)
  let s3 := if old.budget < p.budget then releaseTrigger l s2 else s2
  handTriggerIf (decide (old.budget < p.budget) || decide (old.holdLimit < p.holdLimit)) s3

/-- RESIZE_LEASE (R158, R163, R164, R61). -/
def takeResizeLease (r : Beat) (s : State) : Taken :=
  match recordRefusal r with
  | some status => refuseCommand status s
  | none =>
    let l := recordLease r
    let p := resizeParams r
    if !(s.lease l).active then refuseCommand .notOpen s
    else if !resizeRanges (s.lease l).cls (decide (l = 0)) p.budget p.carryLimit p.holdLimit p.watchThreshold p.reviewSpan
        p.curbLength then refuseCommand .badParam s
    else if (s.lease l).cls = .guaranteed ∧ (s.lease l).budget < p.budget ∧ s.capacity < committedWith s l p.budget then
      overCapacity s
    else okCommand (resizeLeaseAt l p s).committed (resizeLeaseAt l p s)

/-! ### RENEW_LEASE, SUSPEND_LEASE, RESUME_LEASE, RETIRE_LEASE -/

/-- Periods remaining after a renewal, saturating at 65,535 (R165). -/
def renewedPeriods (r : Lease) (periods : Nat) : Nat := min (r.periodsRemaining + periods) Config.max16

/-- RENEW_LEASE (R158, R165). -/
def takeRenewLease (r : Beat) (s : State) : Taken :=
  match recordRefusal r with
  | some status => refuseCommand status s
  | none =>
    let l := recordLease r
    match (s.lease l).state with
    | .free => refuseCommand .notOpen s
    | .draining => refuseCommand .tooLate s
    | .opened | .suspended =>
      if (s.lease l).term = 0 ∨ renewPeriods r = 0 then refuseCommand .badParam s
      else okCommand (renewedPeriods (s.lease l) (renewPeriods r))
        (s.setLease l { s.lease l with periodsRemaining := renewedPeriods (s.lease l) (renewPeriods r) })

/-- SUSPEND_LEASE (R158, R167). -/
def takeSuspendLease (r : Beat) (s : State) : Taken :=
  match recordRefusal r with
  | some status => refuseCommand status s
  | none =>
    let l := recordLease r
    if l = 0 then refuseCommand .reservedLease s
    else match (s.lease l).state with
      | .opened => okCommand 0 (s.setLease l { s.lease l with state := .suspended })
      | .suspended => okCommand 0 s
      | .free => refuseCommand .notOpen s
      | .draining => refuseCommand .notOpen s

/-- The changes of a RESUME_LEASE on a SUSPENDED lease (R168): OPEN, one release trigger, one re-examination trigger. -/
def resumeLeaseAt (l : LeaseId) (s : State) : State :=
  handTrigger (releaseTrigger l (s.setLease l { s.lease l with state := .opened }))

/-- RESUME_LEASE (R158, R168). -/
def takeResumeLease (r : Beat) (s : State) : Taken :=
  match recordRefusal r with
  | some status => refuseCommand status s
  | none =>
    let l := recordLease r
    match (s.lease l).state with
    | .suspended => okCommand 0 (resumeLeaseAt l s)
    | .opened => okCommand 0 s
    | .free => refuseCommand .notOpen s
    | .draining => refuseCommand .notOpen s

/-- RETIRE_LEASE (R158, R169): the result is outstanding as it stood when drain start was taken. -/
def takeRetireLease (r : Beat) (s : State) : Taken :=
  match recordRefusal r with
  | some status => refuseCommand status s
  | none =>
    let l := recordLease r
    if l = 0 then refuseCommand .reservedLease s
    else if (s.lease l).active then okCommand (s.lease l).outstanding (drainStart l .retired s)
    else refuseCommand .notOpen s

/-! ### BIND_STREAM and UNBIND_STREAM -/

/-- The bound-slot count of a lease that loses a slot falls by 1 (R85, R86). -/
def dropSlot (b : Option LeaseId) (s : State) : State :=
  match b with
  | some l => s.setLease l { s.lease l with boundSlots := (s.lease l).boundSlots - 1 }
  | none => s

/-- BIND_STREAM at the stream map (R85): a slot that names another lease or none comes to name the lease. -/
def bindSlot (p : PortId) (t : StreamTag) (l : LeaseId) (s : State) : State :=
  if s.slot p t = some l then s
  else
    let s1 := dropSlot (s.slot p t) s
    handTrigger ((s1.setLease l { s1.lease l with boundSlots := (s1.lease l).boundSlots + 1 }).setSlot p t (some l))

/-- UNBIND_STREAM at the stream map (R86). -/
def unbindSlot (p : PortId) (t : StreamTag) (s : State) : State :=
  match s.slot p t with
  | none => s
  | some l => handTrigger ((dropSlot (some l) s).setSlot p t none)

/-- BIND_STREAM (R158, R171). -/
def takeBindStream (r : Beat) (s : State) : Taken :=
  match recordRefusal r with
  | some status => refuseCommand status s
  | none =>
    let l := recordLease r
    if h : bindingPort r < 8 ∧ bindingTag r < 16 then
      if l = 0 then refuseCommand .reservedLease s
      else if (s.lease l).active then okCommand 0 (bindSlot ⟨bindingPort r, h.1⟩ ⟨bindingTag r, h.2⟩ l s)
      else refuseCommand .notOpen s
    else refuseCommand .badParam s

/-- UNBIND_STREAM (R158, R172): the result is the lease id the slot named, or 255. -/
def takeUnbindStream (r : Beat) (s : State) : Taken :=
  match recordRefusal r with
  | some status => refuseCommand status s
  | none =>
    if h : bindingPort r < 8 ∧ bindingTag r < 16 then
      okCommand (match s.slot ⟨bindingPort r, h.1⟩ ⟨bindingTag r, h.2⟩ with | some l => l.val | none => 255)
        (unbindSlot ⟨bindingPort r, h.1⟩ ⟨bindingTag r, h.2⟩ s)
    else refuseCommand .badParam s

/-! ### QUERY_LEASE, ACK_ATTENTION, SET_CAPACITY -/

/-- A snapshot address R173 takes: a multiple of 32 with the 128 bytes in one 4096-byte block. -/
def snapshotAddressOk (a : Address) : Bool := decide (a.toNat % 32 = 0) && decide (a.toNat % 4096 ≤ 3968)

/-- QUERY_LEASE (R158, R173): the record and its period position are copied for the snapshot write. -/
def takeQueryLease (r : Beat) (s : State) : Taken :=
  match recordRefusal r with
  | some status => refuseCommand status s
  | none =>
    let l := recordLease r
    if snapshotAddressOk (snapshotAddress r) then
      { status := .ok, result := 0, state := s,
        snapshot := some (snapshotAddress r, snapshotBeats l (s.lease l) (s.timer l).count) }
    else refuseCommand .badParam s

/-- The reasons of the mask leave the reason set; a lease whose set is then empty leaves the attention set (R175, R178). -/
def acknowledge (l : LeaseId) (mask : ReasonSet) (s : State) : State :=
  let left := (s.lease l).reasons &&& ~~~ mask
  let s1 := s.setLease l { s.lease l with reasons := left }
  if left = 0 then leaveAttention l s1 else s1

/-- ACK_ATTENTION (R158, R175): the result is the reason set left, as a mask in bits 7:4 (R186). -/
def takeAckAttention (r : Beat) (s : State) : Taken :=
  match recordRefusal r with
  | some status => refuseCommand status s
  | none =>
    let l := recordLease r
    okCommand (reasonByte ((s.lease l).reasons &&& ~~~ reasonMask r)) (acknowledge l (reasonMask r) s)

/-- SET_CAPACITY (R158, R62, R176). -/
def takeSetCapacity (r : Beat) (s : State) : Taken :=
  match recordRefusal r with
  | some status => refuseCommand status s
  | none =>
    if s.committed ≤ capacityValue r then okCommand s.committed { s with capacity := capacityValue r }
    else overCapacity s

/-! ### The execute step -/

/-- A fetched record is taken by its code (R148, R185). -/
def takeRecord (r : Beat) (s : State) : Taken :=
  match (recordCode r).toNat with
  | 0 => takeNop r s
  | 1 => takeOpenLease r s
  | 2 => takeResizeLease r s
  | 3 => takeRenewLease r s
  | 4 => takeSuspendLease r s
  | 5 => takeResumeLease r s
  | 6 => takeRetireLease r s
  | 7 => takeBindStream r s
  | 8 => takeUnbindStream r s
  | 9 => takeQueryLease r s
  | 10 => takeAckAttention r s
  | 11 => takeSetCapacity r s
  | _ => takeUnknown r s

/-- The step after EXECUTE (R145): SNAPSHOT for a QUERY_LEASE that passed, COMPLETION otherwise. -/
def stepAfter (r : Beat) (k : Taken) : EngineStep :=
  let command : InHand := { code := recordCode r, sequence := recordSequence r, status := k.status, result := k.result }
  match k.snapshot with
  | some (address, beats) => .snapshot command address beats
  | none => .completion command

/-- The fetch step ends and the command is executed, in one claim (R147, R148): the fetch index advances, the command is taken,
its outcome is fixed and the next step presents its request. -/
def executeFetched (r : Beat) (take : Beat → State → Taken) (stopPending : Bool) (s : State) : State :=
  let k := take r s
  { k.state with
    engine := { k.state.engine with
      fetch := k.state.engine.next k.state.engine.fetch
      state := .busy (stepAfter r k) .presented stopPending } }

/-- An OK answer ends an ISSUED tag (R129, steps 2 and 3). -/
def freeTag (t : TagId) (f : IssuedTag) (s : State) : State := fallOutstanding f.lease (s.setTag t .free)

/-- The tag under which the engine's fetch stands ISSUED, with its fields, and the stop-pending flag: the link is LINK_UP, the
engine BUSY at FETCH with its request ISSUED. -/
def fetchInFlight (s : State) : Option (TagId × IssuedTag × Bool) :=
  match s.link, s.engine.state with
  | .up, .busy .fetch .issued stopPending =>
    (List.finRange 32).findSome? fun t =>
      match s.tag t with
      | .issued f => if f.origin = .engine then some (t, f, stopPending) else none
      | .free => none
      | .orphaned => none
  | _, _ => none

/-- The claim in which the engine's fetch is answered OK with a record: the tag ends (R129), then the command is executed (R147;
the order is DEDUCED, entry 10). In any state in which no fetch stands at the memory side no command is taken (R143, entry 6). -/
def answerFetch (r : Beat) (take : Beat → State → Taken) (s : State) : State :=
  match fetchInFlight s with
  | some (t, f, stopPending) => executeFetched r take stopPending (freeTag t f s)
  | none => s

/-! ### The meanings of the command rows -/

/-- NOP (R177). -/
def execNop (body : RecordBody) (s : State) : Host.Outcome State Fault Refusal :=
  .next (answerFetch (commandRecord 0 body) takeNop s)

/-- OPEN_LEASE (R161). -/
def execOpenLease (body : RecordBody) (s : State) : Host.Outcome State Fault Refusal :=
  .next (answerFetch (commandRecord 1 body) takeOpenLease s)

/-- RESIZE_LEASE (R164). -/
def execResizeLease (body : RecordBody) (s : State) : Host.Outcome State Fault Refusal :=
  .next (answerFetch (commandRecord 2 body) takeResizeLease s)

/-- RENEW_LEASE (R165). -/
def execRenewLease (body : RecordBody) (s : State) : Host.Outcome State Fault Refusal :=
  .next (answerFetch (commandRecord 3 body) takeRenewLease s)

/-- SUSPEND_LEASE (R167). -/
def execSuspendLease (body : RecordBody) (s : State) : Host.Outcome State Fault Refusal :=
  .next (answerFetch (commandRecord 4 body) takeSuspendLease s)

/-- RESUME_LEASE (R168). -/
def execResumeLease (body : RecordBody) (s : State) : Host.Outcome State Fault Refusal :=
  .next (answerFetch (commandRecord 5 body) takeResumeLease s)

/-- RETIRE_LEASE (R169). -/
def execRetireLease (body : RecordBody) (s : State) : Host.Outcome State Fault Refusal :=
  .next (answerFetch (commandRecord 6 body) takeRetireLease s)

/-- BIND_STREAM (R171). -/
def execBindStream (body : RecordBody) (s : State) : Host.Outcome State Fault Refusal :=
  .next (answerFetch (commandRecord 7 body) takeBindStream s)

/-- UNBIND_STREAM (R172). -/
def execUnbindStream (body : RecordBody) (s : State) : Host.Outcome State Fault Refusal :=
  .next (answerFetch (commandRecord 8 body) takeUnbindStream s)

/-- QUERY_LEASE (R173). -/
def execQueryLease (body : RecordBody) (s : State) : Host.Outcome State Fault Refusal :=
  .next (answerFetch (commandRecord 9 body) takeQueryLease s)

/-- ACK_ATTENTION (R175). -/
def execAckAttention (body : RecordBody) (s : State) : Host.Outcome State Fault Refusal :=
  .next (answerFetch (commandRecord 10 body) takeAckAttention s)

/-- SET_CAPACITY (R176). -/
def execSetCapacity (body : RecordBody) (s : State) : Host.Outcome State Fault Refusal :=
  .next (answerFetch (commandRecord 11 body) takeSetCapacity s)

/-- UNKNOWN_COMMAND_CODE (R148). A code of the twelve is taken as the command it is (entry 18). -/
def execUnknownCommandCode (code : Byte) (body : RecordBody) (s : State) : Host.Outcome State Fault Refusal :=
  .next (answerFetch (commandRecord code body) takeRecord s)

end Sys2Proof.Machine
end

