-- ==== Sys2Proof/Machine/MemoryPort.lean ====
section
/-!
DEFINITION. The dispatcher's issue arbiter and the memory port unit (Section 8), and what the engine does with the answers to
its own requests (Section 9): ISSUE, MEMORY_RESPONSE, READY_SIGNAL, READY_LEVEL_DEASSERTED.
-/

namespace Sys2Proof.Machine

/-! ### Issue -/

/-- The queue the arbiter takes the next entry from, by the four cases of R125; `none` when both are empty. -/
def chooseQueue (s : State) : Option QueueName :=
  match s.gQueue, s.sQueue with
  | [], [] => none
  | [], _ :: _ => some .s
  | _ :: _, [] => some .g
  | _ :: _, _ :: _ => if s.gRun < Config.gRunMax then some .g else some .s

/-- The FREE tag with the lowest number (R126). -/
def lowestFreeTag (s : State) : Option TagId := (List.finRange 32).find? fun t => decide (s.tag t = .free)

/-- The entry at the head of the chosen queue leaves it, and the G-run count changes (R125, R126 step 1). -/
def takeFromQueue (q : QueueName) (s : State) : State :=
  match q with
  | .g => { s with gQueue := s.gQueue.tail, gRun := min (s.gRun + 1) Config.gRunMax }
  | .s => { s with sQueue := s.sQueue.tail, gRun := 0 }

/-- The fields a tag takes from the issued entry, muted clear and timer 0 (R126 step 2). -/
def issuedFields (e : DispatchEntry) : IssuedTag where
  lease := e.lease
  origin := e.origin
  direction := e.direction
  length := e.length
  muted := false
  timer := 0

/-- The engine's placed request is now ISSUED (R146). -/
def EngineState.issuedNow : EngineState → EngineState
  | .busy step .placed stopPending => .busy step .issued stopPending
  | e => e

/-- The engine's request moves on when the issued entry is its own (R146). -/
def noteEngineIssue (o : Origin) (s : State) : State :=
  match o with
  | .engine => s.setEngineState s.engine.state.issuedNow
  | .client _ _ => s

/-- An issue of an entry from a queue under a tag (R126). -/
def issueEntry (q : QueueName) (e : DispatchEntry) (t : TagId) (s : State) : State :=
  let s1 := (takeFromQueue q s).setTag t (.issued (issuedFields e))
  let s2 := { s1 with memoryOut := s1.memoryOut ++ [.request t e.direction e.address e.length e.data] }
  handTrigger (noteEngineIssue e.origin s2)

/-- What ISSUE would take: the queue, its head and the tag, when the link is LINK_UP, a tag is FREE and a queue holds an entry
(R125). -/
def nextIssue (s : State) : Option (QueueName × DispatchEntry × TagId) :=
  match s.link, lowestFreeTag s, chooseQueue s with
  | .up, some t, some q =>
    match s.queue q with
    | e :: _ => some (q, e, t)
    | [] => none
  | _, _, _ => none

/-- ISSUE (R126); while one of the arbiter's conditions fails it makes no choice and nothing changes (R125). -/
def execIssue (s : State) : Host.Outcome State Fault Refusal :=
  match nextIssue s with
  | some (q, e, t) => .next (issueEntry q e t s)
  | none => .next s

/-! ### Answers to the engine -/

/-- The completion write is answered OK (R150): the complete index advances, COMMAND is set under EACH, and the engine stops, goes
on with the next command, or goes IDLE, setting COMMAND under CAUGHT_UP (R152). -/
def completeCommand (stopPending : Bool) (s : State) : State :=
  let e := { s.engine with complete := s.engine.next s.engine.complete }
  let s1 := { s with engine := e }
  let s2 := if e.completionMode = .each then setSource .command s1 else s1
  if stopPending then s2.setEngineState .stopped
  else if e.hasPending then s2.setEngineState (beginFetch false)
  else
    let s3 := s2.setEngineState .idle
    if e.completionMode = .caughtUp then setSource .command s3 else s3

/-- The one beat of a fetched record. -/
def firstBeat (data : List Beat) : Beat := data.headD 0

/-- An OK answer reaches the engine's step (R147, R149, R150). -/
def engineAnswered (data : List Beat) (s : State) : State :=
  match s.engine.state with
  | .busy .fetch _ stopPending => executeFetched (firstBeat data) takeRecord stopPending s
  | .busy (.snapshot command _ _) _ stopPending => s.setEngineState (.busy (.completion command) .presented stopPending)
  | .busy (.completion _) _ stopPending => completeCommand stopPending s
  | .stopped => s
  | .idle => s
  | .halted => s

/-! ### Responses -/

/-- Exactly `n` beats from what the memory side returned: beats beyond the length are dropped, and a missing beat is a free value
(entry 4). -/
def fitBeats : Nat → List Beat → Nat → List Beat
  | 0, _, _ => []
  | n + 1, b :: rest, i => b :: fitBeats n rest i
  | n + 1, [], i => Config.freeBeat i :: fitBeats n [] (i + 1)

/-- The read data of an OK answer (R128, R129): as many beats as the length for a READ, none for a WRITE. -/
def readData (f : IssuedTag) (data : List Beat) (s : State) : List Beat :=
  match f.direction with
  | .read => fitBeats f.length data s.freeIndex
  | .write => []

/-- The free values used by an answer are not used again. -/
def spendFree (f : IssuedTag) (data : List Beat) (s : State) : State :=
  match f.direction with
  | .read => { s with freeIndex := s.freeIndex + (f.length - data.length) }
  | .write => s

/-- A response OK on an ISSUED tag (R129, R131): the client is answered DONE unless the tag is muted, the tag becomes FREE,
outstanding falls; the engine goes on when the tag was its own. -/
def respondOk (t : TagId) (f : IssuedTag) (data : List Beat) (s : State) : State :=
  let beats := readData f data s
  let s1 := freeTag t f (answerTag f .done beats (spendFree f data s))
  match f.origin with
  | .engine => engineAnswered beats s1
  | .client _ _ => s1

/-- A response ERROR on an ISSUED tag (R130, R131). -/
def respondError (t : TagId) (f : IssuedTag) (s : State) : State :=
  faultTag t f .memoryError .memoryError .free s

/-- A stray response is discarded and STRAY is set (R134). -/
def strayResponse (s : State) : State := setSource .stray s

/-- MEMORY_RESPONSE (R128, Table 8-5). A response taken in LINK_DOWN is stray. -/
def execMemoryResponse (t : TagId) (status : MemoryStatus) (data : List Beat) (s : State) : Host.Outcome State Fault Refusal :=
  match s.link with
  | .down => .next (strayResponse s)
  | .up =>
    match s.tag t with
    | .free => .next (strayResponse s)
    | .orphaned => .next (s.setTag t .free)
    | .issued f =>
      match status with
      | .ok => .next (respondOk t f data s)
      | .error => .next (respondError t f s)

/-! ### The ready level -/

/-- READY_SIGNAL (R127): the level is asserted. A change from deasserted makes a LINK_DOWN link LINK_UP; a level already asserted
is no signal. -/
def execReadySignal (s : State) : Host.Outcome State Fault Refusal :=
  if s.readyLevel then .next s else .next { s with readyLevel := true, link := .up }

/-- READY_LEVEL_DEASSERTED (R127): the level falls; the link's state stands. -/
def execReadyLevelDeasserted (s : State) : Host.Outcome State Fault Refusal :=
  .next { s with readyLevel := false }

end Sys2Proof.Machine
end

