-- ==== Sys2Proof/Machine/Timers.lean ====
section
/-!
DEFINITION. Time: the microsecond event and the expiries it brings (R25, R28, R74, R132), and the period end (R32).
-/

namespace Sys2Proof.Machine

/-! ### Period timers -/

/-- A microsecond counted by a period timer of a lease with exponent `k` (R28): at the period length the count returns to 0 and
one period end is raised. -/
def PeriodTimer.tick (t : PeriodTimer) (k : Nat) : PeriodTimer :=
  if !t.running then t
  else if periodLength k ≤ t.count + 1 then { t with count := 0, raised := t.raised + 1 }
  else { t with count := t.count + 1 }

/-- Every period timer counts one microsecond (R25, R28). -/
def tickPeriodTimers (s : State) : State :=
  { s with timers := tabulate fun l => (s.timer l).tick (s.lease l).k }

/-! ### Stall timers -/

/-- The stall timer's count at the next microsecond event (R74). -/
def Port.stallNext (u : Port) : Nat := min (u.stallTimer + 1) Config.max16

/-- The next microsecond event brings a stall expiry: the head is BLOCKED, the limit is not 0 and the count reaches it (R74). -/
def Port.stallDue (u : Port) : Bool :=
  decide (u.head = .blocked) && decide (u.stallLimit ≠ 0) && decide (u.stallLimit ≤ u.stallNext) && !u.fifo.isEmpty

/-- The refused count of the examined lease rises unless that lease is FREE (R76 step 2). -/
def countStall (u : Port) (s : State) : State :=
  match u.examined with
  | none => s
  | some l => if (s.lease l).state = .free then s else s.setLease l ((s.lease l).countRefusals 1)

/-- A stall expiry (R76): REFUSED_STALLED, the refusal counted, PORT_STALL set, the next request made head. -/
def stallExpire (p : PortId) (s : State) : State :=
  match (s.port p).fifo with
  | [] => s
  | r :: _ => refuseHead p r .refusedStalled (setSource .portStall (countStall (s.port p) s))

/-- A microsecond event taken by a port unit (R74). -/
def tickPort (p : PortId) (s : State) : State :=
  if (s.port p).stallDue then stallExpire p s
  else if (s.port p).head = .blocked then s.setPort p { s.port p with stallTimer := (s.port p).stallNext }
  else s

/-! ### Response timers -/

/-- The response timer's count at the next microsecond event (R132). -/
def IssuedTag.timerNext (f : IssuedTag) : Nat := min (f.timer + 1) Config.max16

/-- The next microsecond event brings a response timeout of the tag: the limit is not 0 and the timer reaches it (R132). -/
def timeoutDue (limit : Nat) (f : IssuedTag) : Bool := decide (limit ≠ 0) && decide (limit ≤ f.timerNext)

/-- A response timeout (R133). -/
def timeoutTag (t : TagId) (f : IssuedTag) (s : State) : State := faultTag t f .timeout .timeout .orphaned s

/-- A microsecond event taken by a tag (R132). -/
def tickTag (t : TagId) (s : State) : State :=
  match s.tag t with
  | .issued f =>
    if timeoutDue s.responseTimeout f then timeoutTag t f s
    else s.setTag t (.issued { f with timer := f.timerNext })
  | .free => s
  | .orphaned => s

/-! ### The microsecond event and the rows of its parts -/

/-- The timers count one microsecond: period timers, then the ports in order, then the tags in order (R25; the order is a DESIGN
CHOICE, entry 8). -/
def countMicrosecond (s : State) : State :=
  (List.finRange 32).foldl (fun s t => tickTag t s)
    ((List.finRange 8).foldl (fun s p => tickPort p s) (tickPeriodTimers s))

/-- The divider begins a new count with the divisor TIMEBASE_MHZ holds (R25). -/
def beginMicrosecond (s : State) : State :=
  { s with timebase := { s.timebase with divisor := s.timebase.mhz, cycles := 0 } }

/-- MICROSECOND_EVENT (R25): the divider completes a count, after the ports have taken the triggers that reached them (R72, entry 7). -/
def execMicrosecondEvent (s : State) : Host.Outcome State Fault Refusal :=
  .next (countMicrosecond (beginMicrosecond (takeTriggers s)))

/-- One core clock cycle of the divider (R25); the step on an empty queue (DESIGN CHOICE, entry 5). -/
def clockCycle (s : State) : Host.Outcome State Fault Refusal :=
  if s.timebase.divisor ≤ s.timebase.cycles + 1 then execMicrosecondEvent s
  else .next { s with timebase := { s.timebase with cycles := s.timebase.cycles + 1 } }

/-- PERIOD_TIMER_EXPIRY (R28): the microsecond that brings this timer to its period length; any other state has none due
(entry 8). -/
def execPeriodTimerExpiry (l : LeaseId) (s : State) : Host.Outcome State Fault Refusal :=
  if (s.timer l).running ∧ periodLength (s.lease l).k ≤ (s.timer l).count + 1 then
    .next (s.setTimer l ((s.timer l).tick (s.lease l).k))
  else .next s

/-- STALL_EXPIRY (R76): the microsecond that brings this port's stall timer to its limit; any other state has none due (entry 8). -/
def execStallExpiry (p : PortId) (s : State) : Host.Outcome State Fault Refusal :=
  if (s.port p).stallDue then .next (stallExpire p s) else .next s

/-- RESPONSE_TIMEOUT (R133): the microsecond that brings this tag's timer to the limit; any other state has none due (entry 8). -/
def execResponseTimeout (t : TagId) (s : State) : Host.Outcome State Fault Refusal :=
  match s.tag t with
  | .issued f => if timeoutDue s.responseTimeout f then .next (timeoutTag t f s) else .next s
  | .free => .next s
  | .orphaned => .next s

/-! ### The period end -/

/-- Step 1 of a period end: a termed lease counts one period off (R32, R33). -/
def countPeriod (l : LeaseId) (s : State) : State :=
  s.setLease l { s.lease l with periodsRemaining := (s.lease l).periodsRemaining - 1 }

/-- Steps 2 to 4 of a period end: refill or regime step, with CURBED raised on entry to CURB, the release trigger of an OPEN lease
and the re-examination trigger (R32, R35, R36, R48). -/
def beginPeriod (l : LeaseId) (s : State) : State :=
  let old := s.lease l
  let s1 := s.setLease l old.newPeriod
  let s2 := if old.cls = .shared ∧ old.entersCurb then raiseReason l .curbed s1 else s1
  handTrigger (releaseTrigger l s2)

/-- A period end taken on an OPEN or SUSPENDED lease (R32). -/
def takePeriodEnd (l : LeaseId) (s : State) : State :=
  if (s.lease l).term = 0 then beginPeriod l s
  else
    let s1 := countPeriod l s
    if (s1.lease l).periodsRemaining = 0 then drainStart l .expired s1 else beginPeriod l s1

/-- PERIOD_END (R29, R32): the lease table takes one raised period end. A lease with none raised, or that is FREE or DRAINING,
takes none (R38). -/
def execPeriodEnd (l : LeaseId) (s : State) : Host.Outcome State Fault Refusal :=
  if 0 < (s.timer l).raised ∧ (s.lease l).active then
    .next (takePeriodEnd l (s.setTimer l { s.timer l with raised := (s.timer l).raised - 1 }))
  else .next s

end Sys2Proof.Machine
end

