-- ==== Sys2Proof/Machine/Resets.lean ====
section
/-!
DEFINITION. The resets: power-on (R188), soft reset (R183), memory port reset from either side (R137), client port reset from the
client or through the window (R80, R182).
-/

namespace Sys2Proof.Machine

/-- After a reset each port accepts at once what its client keeps on the link (R69, R80, R183, entry 12). -/
def settlePorts (s : State) : State := { s with ports := tabulate fun p => (s.port p).settle }

/-! ### Power-on and soft reset -/

/-- POWER_ON_RESET (R188): every block takes its power-on values; at the release of the input the ports accept requests, and a
ready level held by the memory side is taken as its first ready. The queue of commands, the ready level, the requests clients
keep on their links, the two output histories and the model's own fields are outside the controller and stay (entry 13). -/
def execPowerOnReset (s : State) : Host.Outcome State Fault Refusal :=
  .next (settlePorts { State.reset with
    ports := tabulate fun p => { Port.powerOn with link := (s.port p).link }
    link := if s.readyLevel then .up else .down
    readyLevel := s.readyLevel
    sent := s.sent
    memoryOut := s.memoryOut
    freeIndex := s.freeIndex
    delayed := s.delayed
    pending := s.pending })

/-- ISSUED tags become ORPHANED; FREE and ORPHANED tags stand (R139). -/
def Tag.orphan : Tag → Tag
  | .issued _ => .orphaned
  | .free => .free
  | .orphaned => .orphaned

/-- The port unit after a soft reset (R82, R183): power-on values but for the stall limit and the link. -/
def Port.softReset (u : Port) : Port := { u.flush with triggers := 0 }

/-- The claim of a soft reset (R183): every block at its power-on values, but for the management configuration, the link state and
the tags. The divider restarts a whole count (R26). -/
def softResetClaim (s : State) : State :=
  { State.reset with
    timebase := { mhz := s.timebase.mhz, divisor := s.timebase.mhz, cycles := 0 }
    ports := tabulate fun p => (s.port p).softReset
    tags := tabulate fun t => (s.tag t).orphan
    link := s.link
    readyLevel := s.readyLevel
    responseTimeout := s.responseTimeout
    engine := { Engine.powerOn with
      ringBase := s.engine.ringBase
      ringSize := s.engine.ringSize
      completionMode := s.engine.completionMode }
    intEnable := s.intEnable
    sent := s.sent
    memoryOut := s.memoryOut
    freeIndex := s.freeIndex
    delayed := s.delayed
    pending := s.pending }

/-- The soft reset, after which the ports accept what stands on their links. -/
def softReset (s : State) : State := settlePorts (softResetClaim s)

/-- SOFT_RESET (R183). -/
def execSoftReset (s : State) : Host.Outcome State Fault Refusal := .next (softReset s)

/-! ### Memory port reset -/

/-- A memory port reset ends one tag (R137 step 1): ABORTED to the client of an ISSUED tag that is not muted, outstanding lowered,
the engine halted with MEMORY_ABORT when the tag was its own; no fault is counted. The tag becomes FREE (step 3). -/
def abortTag (t : TagId) (s : State) : State :=
  match s.tag t with
  | .issued f => haltIfEngine f .memoryAbort (fallOutstanding f.lease ((answerTag f .aborted [] s).setTag t .free))
  | .free => s
  | .orphaned => s.setTag t .free

/-- The memory port reset (R137): the tags end in tag number order, the link goes LINK_DOWN, LINK_RESET is set. No trigger is
handed. -/
def resetMemoryPort (s : State) : State :=
  setSource .linkReset { (List.finRange 32).foldl (fun s t => abortTag t s) s with link := .down }

/-- The reset as MEMORY_PORT_RESET takes it: it is also signalled to the memory side (R137, R182). -/
def signalMemoryReset (s : State) : State :=
  let s1 := resetMemoryPort s
  { s1 with memoryOut := s1.memoryOut ++ [.resetSignal] }

/-- MEMORY_PORT_RESET (R137). -/
def execMemoryPortReset (s : State) : Host.Outcome State Fault Refusal := .next (signalMemoryReset s)

/-- MEMORY_SIDE_RESET (R137). -/
def execMemorySideReset (s : State) : Host.Outcome State Fault Refusal := .next (resetMemoryPort s)

/-! ### Client port reset -/

/-- Step 3: the port's held entries leave every hold queue without response; their slots are freed, the held counts fall, and a
release whose queue is emptied becomes IDLE (R117). -/
def removeHeld (p : PortId) (s : State) : State :=
  let kept := fun l => (s.holdQueue l).filter fun e => decide (e.port ≠ p)
  let gone := fun l => (s.holdQueue l).length - (kept l).length
  { s with
    leases := tabulate fun l => (s.lease l).unhold (gone l)
    holdQueues := tabulate kept
    releases := tabulate fun l => if gone l ≠ 0 ∧ kept l = [] then .idle else s.release l
    poolFree := s.poolFree + ((List.finRange 64).map gone).sum }

/-- The entry is a client request of the port. -/
def DispatchEntry.ofPort (e : DispatchEntry) (p : PortId) : Bool :=
  match e.origin with
  | .client q _ => decide (q = p)
  | .engine => false

/-- Step 4: the port's dispatch entries leave both queues without response, and outstanding of each one's lease falls (R80, R122). -/
def removeDispatched (p : PortId) (s : State) : State :=
  let gone := (s.gQueue ++ s.sQueue).filter (·.ofPort p)
  gone.foldl (fun s e => fallOutstanding e.lease s)
    { s with
      gQueue := s.gQueue.filter fun e => !e.ofPort p
      sQueue := s.sQueue.filter fun e => !e.ofPort p }

/-- Step 5: an ISSUED tag of the port is muted (R80, R131). -/
def Tag.mute (p : PortId) : Tag → Tag
  | .issued f =>
    match f.origin with
    | .client q _ => if q = p then .issued { f with muted := true } else .issued f
    | .engine => .issued f
  | .free => .free
  | .orphaned => .orphaned

/-- Steps 3 or 4 will remove something. -/
def portHasWork (p : PortId) (s : State) : Bool :=
  (s.gQueue ++ s.sQueue).any (·.ofPort p) ||
    (List.finRange 64).any fun l => (s.holdQueue l).any fun e => decide (e.port = p)

/-- A client port reset (R80), in one claim: the removals hand one trigger to the other ports (step 6), and the port then accepts what
stands on its link. -/
def resetPort (p : PortId) (s : State) : State :=
  let s1 := removeDispatched p (removeHeld p s)
  let s2 := { s1 with tags := tabulate fun t => (s1.tag t).mute p }
  (handTriggerIf (portHasWork p s) s2).setPort p (s.port p).flush.settle

/-- CLIENT_PORT_RESET (R80). -/
def execClientPortReset (p : PortId) (s : State) : Host.Outcome State Fault Refusal := .next (resetPort p s)

/-- PORT_RESET at the ports its mask names, each as a claim of its own, in port order (R182, entry 14). -/
def resetPorts (mask : Byte) (s : State) : State :=
  (List.finRange 8).foldl (fun s p => if mask.getLsbD p.val then resetPort p s else s) s

/-- PORT_RESET (R182). -/
def execPortReset (mask : Byte) (s : State) : Host.Outcome State Fault Refusal := .next (resetPorts mask s)

end Sys2Proof.Machine
end

