-- ==== Sys2Proof/Machine/Window.lean ====
section
/-!
DEFINITION. Writes of the management window (R182): the engine's controls (R144), the ring (R141, R142), the interrupt registers
(R179, R180), the timebase (R25) and the timing and mode registers (R75, R132, R152).
-/

namespace Sys2Proof.Machine

/-! ### Engine controls (R144, Table 9-3) -/

/-- START: STOPPED becomes BUSY when a command is pending, IDLE otherwise. -/
def startEngine (s : State) : State :=
  match s.engine.state with
  | .stopped => s.setEngineState (if s.engine.hasPending then beginFetch false else .idle)
  | .idle => s
  | .busy _ _ _ => s
  | .halted => s

/-- STOP: IDLE becomes STOPPED; in BUSY stop-pending is set. -/
def stopEngine (s : State) : State :=
  match s.engine.state with
  | .stopped => s
  | .idle => s.setEngineState .stopped
  | .busy step phase _ => s.setEngineState (.busy step phase true)
  | .halted => s

/-- CLEAR_HALT: HALTED becomes STOPPED; indices and fault record stand. -/
def clearEngineHalt (s : State) : State :=
  match s.engine.state with
  | .stopped => s
  | .idle => s
  | .busy _ _ _ => s
  | .halted => s.setEngineState .stopped

/-- START (R144). -/
def execStart (s : State) : Host.Outcome State Fault Refusal := .next (startEngine s)

/-- STOP (R144). -/
def execStop (s : State) : Host.Outcome State Fault Refusal := .next (stopEngine s)

/-- CLEAR_HALT (R144). -/
def execClearHalt (s : State) : Host.Outcome State Fault Refusal := .next (clearEngineHalt s)

/-! ### The ring -/

/-- A value of SUBMIT_INDEX that is ignored: at or above the ring size, or in BUSY equal to the complete index (R142). -/
def submitIgnored (e : Engine) (v : Nat) : Bool :=
  decide (e.ringSize ≤ v) ||
    (match e.state with
     | .busy _ _ _ => decide (v = e.complete)
     | .stopped => false
     | .idle => false
     | .halted => false)

/-- A write of SUBMIT_INDEX (R142): in IDLE a write that leaves a command pending moves the engine to BUSY (R143). -/
def writeSubmit (v : Nat) (s : State) : State :=
  if submitIgnored s.engine v then s
  else
    let e := { s.engine with submit := v }
    match e.state with
    | .idle => { s with engine := { e with state := if e.hasPending then beginFetch false else .idle } }
    | .stopped => { s with engine := e }
    | .busy _ _ _ => { s with engine := e }
    | .halted => { s with engine := e }

/-- SUBMIT_INDEX_WRITE (R142). -/
def execSubmitIndexWrite (value : Word) (s : State) : Host.Outcome State Fault Refusal := .next (writeSubmit value.toNat s)

/-- A write of RING_BASE, taken in STOPPED alone, sets the word's address bits and the three indices to 0 (R141). -/
def writeRingBase (word : Fin 2) (value : Word) (s : State) : State :=
  if s.engine.state = .stopped then
    { s with engine := { s.engine with
      ringBase := ringBaseWith s.engine.ringBase word value, submit := 0, fetch := 0, complete := 0 } }
  else s

/-- RING_BASE_WRITE (R141). -/
def execRingBaseWrite (word : Fin 2) (value : Word) (s : State) : Host.Outcome State Fault Refusal :=
  .next (writeRingBase word value s)

/-- A write of RING_SIZE with a valid slot count, taken in STOPPED alone, sets it and the three indices to 0 (R141). -/
def writeRingSize (value : Word) (s : State) : State :=
  if s.engine.state = .stopped ∧ validRingSize value.toNat then
    { s with engine := { s.engine with ringSize := value.toNat, submit := 0, fetch := 0, complete := 0 } }
  else s

/-- RING_SIZE_WRITE (R141). -/
def execRingSizeWrite (value : Word) (s : State) : Host.Outcome State Fault Refusal := .next (writeRingSize value s)

/-! ### Interrupt registers and the timebase -/

/-- A write of INT_STATUS clears the sources written as 1 (R179). -/
def writeIntStatus (value : Word) (s : State) : State :=
  { s with intStatus := s.intStatus &&& ~~~ value.extractLsb' 0 6 }

/-- INT_STATUS_WRITE (R179). -/
def execIntStatusWrite (value : Word) (s : State) : Host.Outcome State Fault Refusal := .next (writeIntStatus value s)

/-- A write of INT_ENABLE replaces the six enables (R180). -/
def writeIntEnable (value : Word) (s : State) : State := { s with intEnable := value.extractLsb' 0 6 }

/-- INT_ENABLE_WRITE (R180). -/
def execIntEnableWrite (value : Word) (s : State) : Host.Outcome State Fault Refusal := .next (writeIntEnable value s)

/-- A write of TIMEBASE_MHZ from 50 to 400 is taken; the microsecond in progress keeps its divisor (R25). -/
def writeTimebase (value : Word) (s : State) : State :=
  if 50 ≤ value.toNat ∧ value.toNat ≤ 400 then { s with timebase := { s.timebase with mhz := value.toNat } } else s

/-- TIMEBASE_MHZ_WRITE (R25). -/
def execTimebaseMhzWrite (value : Word) (s : State) : Host.Outcome State Fault Refusal := .next (writeTimebase value s)

/-! ### Any window write -/

/-- A write of STALL_LIMIT from 0 to 65,535 is taken; the stall timer is not changed (R75). -/
def writeStallLimit (p : PortId) (value : Word) (s : State) : State :=
  if value.toNat ≤ Config.max16 then s.setPort p { s.port p with stallLimit := value.toNat } else s

/-- A write of RESPONSE_TIMEOUT from 0 to 65,535 is taken (R132). -/
def writeResponseTimeout (value : Word) (s : State) : State :=
  if value.toNat ≤ Config.max16 then { s with responseTimeout := value.toNat } else s

/-- A write of COMPLETION_MODE: 0 EACH, 1 CAUGHT_UP, other values ignored (R152). -/
def writeCompletionMode (value : Word) (s : State) : State :=
  match value.toNat with
  | 0 => { s with engine := { s.engine with completionMode := .each } }
  | 1 => { s with engine := { s.engine with completionMode := .caughtUp } }
  | _ => s

/-- A control named by a write of ENGINE_CONTROL (R182). -/
def takeControl (c : Control) (s : State) : State :=
  match c with
  | .none => s
  | .start => startEngine s
  | .stop => stopEngine s
  | .clearHalt => clearEngineHalt s
  | .softReset => softReset s
  | .memoryPortReset => signalMemoryReset s
  | .portReset mask => resetPorts mask s

/-- A write of a register of Table 11-2 (R182): registers marked R ignore it. -/
def writeRegister (r : Register) (value : Word) (s : State) : State :=
  match r with
  | .engineControl => takeControl (controlOf value) s
  | .engineState => s
  | .fault => s
  | .ringBase word => writeRingBase word value s
  | .ringSize => writeRingSize value s
  | .submitIndex => writeSubmit value.toNat s
  | .completeIndex => s
  | .intStatus => writeIntStatus value s
  | .intEnable => writeIntEnable value s
  | .completionMode => writeCompletionMode value s
  | .timebaseMhz => writeTimebase value s
  | .responseTimeout => writeResponseTimeout value s
  | .stallLimit p => writeStallLimit p value s
  | .capacity => s
  | .committed => s
  | .attention _ => s
  | .poolFree => s
  | .tags => s
  | .link => s

/-- A write of the window at a byte offset; one that names no register is ignored (R182). -/
def windowWrite (offset value : Word) (s : State) : State :=
  match registerAt offset with
  | some r => writeRegister r value s
  | none => s

/-- REGISTER_WRITE (R182): any other window write. At an offset with a row of its own it has that row's effect (entry 15). -/
def execRegisterWrite (offset value : Word) (s : State) : Host.Outcome State Fault Refusal := .next (windowWrite offset value s)

end Sys2Proof.Machine
end

