-- ==== Sys2Proof/Machine/Dispatch.lean ====
section
/-!
DEFINITION. The dispatch of the commands to their meanings, one arm a row of spec/opcode_table.json.
-/

namespace Sys2Proof.Machine

def exec (i : Instr) (s : State) : Host.Outcome State Fault Refusal :=
  match i with
  | .powerOnReset => Sys2Proof.Machine.execPowerOnReset s
  | .softReset => Sys2Proof.Machine.execSoftReset s
  | .memoryPortReset => Sys2Proof.Machine.execMemoryPortReset s
  | .memorySideReset => Sys2Proof.Machine.execMemorySideReset s
  | .portReset mask => Sys2Proof.Machine.execPortReset mask s
  | .clientPortReset port => Sys2Proof.Machine.execClientPortReset port s
  | .start => Sys2Proof.Machine.execStart s
  | .stop => Sys2Proof.Machine.execStop s
  | .clearHalt => Sys2Proof.Machine.execClearHalt s
  | .submitIndexWrite value => Sys2Proof.Machine.execSubmitIndexWrite value s
  | .ringBaseWrite word value => Sys2Proof.Machine.execRingBaseWrite word value s
  | .ringSizeWrite value => Sys2Proof.Machine.execRingSizeWrite value s
  | .intStatusWrite value => Sys2Proof.Machine.execIntStatusWrite value s
  | .intEnableWrite value => Sys2Proof.Machine.execIntEnableWrite value s
  | .timebaseMhzWrite value => Sys2Proof.Machine.execTimebaseMhzWrite value s
  | .registerWrite offset value => Sys2Proof.Machine.execRegisterWrite offset value s
  | .microsecondEvent => Sys2Proof.Machine.execMicrosecondEvent s
  | .periodTimerExpiry lease => Sys2Proof.Machine.execPeriodTimerExpiry lease s
  | .periodEnd lease => Sys2Proof.Machine.execPeriodEnd lease s
  | .stallExpiry port => Sys2Proof.Machine.execStallExpiry port s
  | .responseTimeout tag => Sys2Proof.Machine.execResponseTimeout tag s
  | .requestArrival port request => Sys2Proof.Machine.execRequestArrival port request s
  | .portHeadExamination => Sys2Proof.Machine.execPortHeadExamination s
  | .releasedEntryExamination => Sys2Proof.Machine.execReleasedEntryExamination s
  | .engineRequestExamination => Sys2Proof.Machine.execEngineRequestExamination s
  | .issue => Sys2Proof.Machine.execIssue s
  | .memoryResponse tag status data => Sys2Proof.Machine.execMemoryResponse tag status data s
  | .readySignal => Sys2Proof.Machine.execReadySignal s
  | .nop body => Sys2Proof.Machine.execNop body s
  | .openLease body => Sys2Proof.Machine.execOpenLease body s
  | .resizeLease body => Sys2Proof.Machine.execResizeLease body s
  | .renewLease body => Sys2Proof.Machine.execRenewLease body s
  | .suspendLease body => Sys2Proof.Machine.execSuspendLease body s
  | .resumeLease body => Sys2Proof.Machine.execResumeLease body s
  | .retireLease body => Sys2Proof.Machine.execRetireLease body s
  | .bindStream body => Sys2Proof.Machine.execBindStream body s
  | .unbindStream body => Sys2Proof.Machine.execUnbindStream body s
  | .queryLease body => Sys2Proof.Machine.execQueryLease body s
  | .ackAttention body => Sys2Proof.Machine.execAckAttention body s
  | .setCapacity body => Sys2Proof.Machine.execSetCapacity body s
  | .readyLevelDeasserted => Sys2Proof.Machine.execReadyLevelDeasserted s
  | .unknownCommandCode code body => Sys2Proof.Machine.execUnknownCommandCode code body s

end Sys2Proof.Machine
end

