-- ==== Sys2Proof/Machine/Step.lean ====
section
/-!
DEFINITION. One step of the controller: the command at the front of the queue is taken; on an empty queue one core clock cycle
passes in the timebase divider (DESIGN CHOICE, entry 5).
-/

namespace Sys2Proof.Machine

/-- One step. -/
def step (s : State) : Host.Outcome State Fault Refusal :=
  match s.pending with
  | [] => Sys2Proof.Machine.clockCycle s
  | c :: rest => Sys2Proof.Machine.exec c { s with pending := rest }

/-- The state with the command a word of the table spells put at the front of its queue; unchanged where the word spells none. -/
def State.withFetchWord (s : State) (nbits w : Nat) : State :=
  match decodeTableWord nbits w with
  | some c => { s with pending := c :: s.pending }
  | none => s

end Sys2Proof.Machine
end

