-- ==== Sys2Proof/Safety.lean ====
section
/-!
DEFINITION. The laws of the controller's state that the manual states of every moment, in the terms the obligations use. Each is
what a safe state satisfies; that every step keeps it is an obligation.
-/

namespace Sys2Proof.Machine

/-- R178: a lease id is in the attention set exactly when its reason set is not empty. -/
abbrev AttentionLaw (s : State) : Prop :=
  ∀ l : LeaseId, s.attention.getLsbD l.val = decide ((s.lease l).reasons ≠ 0)

/-- R6, R5: spent never exceeds credit; credit fits 32 bits; the carry limit is at most the budget. -/
abbrev CreditLaw (s : State) : Prop :=
  ∀ l : LeaseId, (s.lease l).spent ≤ (s.lease l).credit ∧ (s.lease l).credit ≤ Config.max32 ∧
    (s.lease l).carryLimit ≤ (s.lease l).budget ∧ (s.lease l).budget ≤ 65535

/-- R83: a slot names only an OPEN or SUSPENDED lease other than lease 0. -/
abbrev StreamLaw (s : State) : Prop :=
  ∀ (p : PortId) (t : StreamTag) (l : LeaseId), s.slot p t = some l → l ≠ 0 ∧ (s.lease l).active = true

/-- R9, R83: the bound-slot count of a lease is the number of slots naming it. -/
abbrev BoundSlotLaw (s : State) : Prop :=
  ∀ l : LeaseId, (s.lease l).boundSlots = s.streams.toList.count (some l)

/-- R107, R109, R110: held counts are the lengths of the hold queues and at most 32; the occupied slots and the free count make 96;
a FREE or DRAINING lease has an empty hold queue. -/
abbrev HoldLaw (s : State) : Prop :=
  (∀ l : LeaseId, (s.lease l).heldCount = (s.holdQueue l).length ∧ (s.lease l).heldCount ≤ 32 ∧ (s.lease l).holdLimit ≤ 32 ∧
    ((s.lease l).active = false → s.holdQueue l = [])) ∧
  s.poolFree + ((List.finRange 64).map fun l => (s.holdQueue l).length).sum = 96

/-- The tag is ISSUED and names the lease. -/
def Tag.names (l : LeaseId) : Tag → Bool
  | .issued f => decide (f.lease = l)
  | .free => false
  | .orphaned => false

/-- Dispatch entries and ISSUED tags of a lease. -/
def workOf (s : State) (l : LeaseId) : Nat :=
  (s.gQueue ++ s.sQueue).countP (fun e => decide (e.lease = l)) + s.tags.toList.countP (Tag.names l)

/-- R123: outstanding is the number of dispatch entries naming the lease plus the number of ISSUED tags naming it. -/
abbrev OutstandingLaw (s : State) : Prop := ∀ l : LeaseId, (s.lease l).outstanding = workOf s l

/-- R121, R125: each dispatch queue holds at most 16 entries and the G-run count is at most 8. -/
abbrev QueueLaw (s : State) : Prop := s.gQueue.length ≤ 16 ∧ s.sQueue.length ≤ 16 ∧ s.gRun ≤ 8

/-- What a lease adds to the committed sum: its rate when GUARANTEED and OPEN or SUSPENDED (R3, R58). -/
def Lease.commitment (r : Lease) : Nat :=
  match r.cls with
  | .guaranteed => if r.active then r.rate else 0
  | .capped => 0
  | .shared => 0

/-- R58: the committed sum is the sum of the rates it counts and never exceeds the capacity figure. -/
abbrev CommittedLaw (s : State) : Prop :=
  s.committed = ((List.finRange 64).map fun l => (s.lease l).commitment).sum ∧ s.committed ≤ s.capacity

/-- R21: lease 0 is OPEN and GUARANTEED, without term, overdraw, fence or reasons, holds nothing, is bound to no slot and absent
from the attention set. -/
abbrev LeaseZeroLaw (s : State) : Prop :=
  (s.lease 0).state = .opened ∧ (s.lease 0).cls = .guaranteed ∧ (s.lease 0).k = 0 ∧ (s.lease 0).term = 0 ∧
    (s.lease 0).holdLimit = 0 ∧ (s.lease 0).overdrawPermitted = false ∧ (s.lease 0).fence = none ∧
    (s.lease 0).notify = 0 ∧ (s.lease 0).reasons = 0 ∧ s.holdQueue 0 = [] ∧ s.release 0 = .idle ∧
    s.attention.getLsbD 0 = false ∧ ∀ (p : PortId) (t : StreamTag), s.slot p t ≠ some 0

/-- R141, R142, R143: the ring size is one of the five, the base's low 12 bits are zero, the indices name slots; outside BUSY the
complete index equals the fetch index, in IDLE the submit index too; in BUSY the fetch index is the complete index at FETCH and
the slot after it later, and the submit index covers the command in hand. -/
abbrev EngineLaw (s : State) : Prop :=
  validRingSize s.engine.ringSize = true ∧ s.engine.ringBase.toNat % 4096 = 0 ∧
    s.engine.submit < s.engine.ringSize ∧ s.engine.fetch < s.engine.ringSize ∧ s.engine.complete < s.engine.ringSize ∧
    (match s.engine.state with
     | .stopped => s.engine.complete = s.engine.fetch
     | .halted => s.engine.complete = s.engine.fetch
     | .idle => s.engine.complete = s.engine.fetch ∧ s.engine.submit = s.engine.fetch
     | .busy .fetch _ _ => s.engine.complete = s.engine.fetch ∧ s.engine.submit ≠ s.engine.complete
     | .busy (.snapshot _ _ _) _ _ =>
       s.engine.fetch = s.engine.next s.engine.complete ∧ s.engine.submit ≠ s.engine.complete
     | .busy (.completion _) _ _ =>
       s.engine.fetch = s.engine.next s.engine.complete ∧ s.engine.submit ≠ s.engine.complete)

/-- The origin is the engine (the engine flag of Tables 8-1 and 8-2). -/
def Origin.isEngine : Origin → Bool
  | .engine => true
  | .client _ _ => false

/-- An ISSUED tag with the engine flag. -/
def Tag.isEngine : Tag → Bool
  | .issued f => f.origin.isEngine
  | .free => false
  | .orphaned => false

/-- R140, R145, R146: the engine's one request stands where its phase says: an engine entry in the G queue exactly when PLACED, an
engine tag exactly when ISSUED, at most one of either, and none in the S queue. -/
abbrev EngineRequestLaw (s : State) : Prop :=
  s.gQueue.countP (fun e => e.origin.isEngine) = (match s.engine.state with | .busy _ .placed _ => 1 | _ => 0) ∧
  s.tags.toList.countP Tag.isEngine = (match s.engine.state with | .busy _ .issued _ => 1 | _ => 0) ∧
  s.sQueue.countP (fun e => e.origin.isEngine) = 0

/-- R128, R137: while the link is LINK_DOWN every tag is FREE. -/
abbrev LinkLaw (s : State) : Prop := s.link = .down → ∀ t : TagId, s.tag t = .free

/-- R67, R69, R70, R71: a FIFO holds at most 8 requests; the head is IDLE exactly when the FIFO is empty; a BLOCKED head has an
examined lease; a link holds a request back only while the FIFO is full; stall timers and limits fit 16 bits. -/
abbrev PortLaw (s : State) : Prop :=
  ∀ p : PortId, (s.port p).fifo.length ≤ 8 ∧ ((s.port p).head = .idle ↔ (s.port p).fifo = []) ∧
    ((s.port p).head = .blocked → (s.port p).examined ≠ none) ∧
    ((s.port p).link ≠ [] → (s.port p).fifo.length = 8) ∧
    (s.port p).stallTimer ≤ 65535 ∧ (s.port p).stallLimit ≤ 65535

/-- R11, R14, R28, R29: a FREE lease reads as R11 says with its timer stopped at 0; a DRAINING lease has a drain cause, work
outstanding and a stopped timer; an OPEN or SUSPENDED lease has no drain cause and a running timer; a stopped timer has raised
no period end that waits. -/
abbrev LeaseStateLaw (s : State) : Prop :=
  ∀ l : LeaseId,
    (match (s.lease l).state with
     | .free => s.lease l = Lease.freeRecord (s.lease l).notify (s.lease l).reasons ∧
         s.timer l = { count := 0, running := false, raised := 0 }
     | .draining => (s.lease l).drainCause ≠ none ∧ 0 < (s.lease l).outstanding ∧ (s.timer l).running = false ∧
         (s.timer l).raised = 0
     | .opened => (s.lease l).drainCause = none ∧ (s.timer l).running = true
     | .suspended => (s.lease l).drainCause = none ∧ (s.timer l).running = true)

/-- R27, R28: the period exponent is at most 12, and a period timer counts below its lease's period length. -/
abbrev PeriodLaw (s : State) : Prop :=
  ∀ l : LeaseId, (s.lease l).k ≤ 12 ∧ (s.timer l).count < periodLength (s.lease l).k

/-- R44: the regime fields of a lease that is not SHARED stand at WATCH, 0, 0, 0 with the watch fields 0; in CURB the review counter
is 0 and curb remaining at least 1, in WATCH curb remaining is 0 and a SHARED lease's review counter at least 1; the counts stay
within the spans. -/
abbrev RegimeLaw (s : State) : Prop :=
  ∀ l : LeaseId,
    (match (s.lease l).cls with
     | .shared =>
       1 ≤ (s.lease l).reviewSpan ∧ (s.lease l).reviewSpan ≤ 63 ∧ 1 ≤ (s.lease l).curbLength ∧ (s.lease l).curbLength ≤ 63 ∧
       (s.lease l).reviewAccumulator ≤ Config.max32 ∧ (s.lease l).carryLimit = 0 ∧ (s.lease l).overdrawPermitted = false ∧
       (match (s.lease l).regime with
        | .watch => (s.lease l).curbRemaining = 0 ∧ 1 ≤ (s.lease l).reviewCounter ∧
            (s.lease l).reviewCounter ≤ (s.lease l).reviewSpan
        | .curb => (s.lease l).reviewCounter = 0 ∧ 1 ≤ (s.lease l).curbRemaining ∧
            (s.lease l).curbRemaining ≤ (s.lease l).curbLength)
     | .guaranteed =>
       (s.lease l).regime = .watch ∧ (s.lease l).reviewAccumulator = 0 ∧ (s.lease l).reviewCounter = 0 ∧
       (s.lease l).curbRemaining = 0 ∧ (s.lease l).watchThreshold = 0 ∧ (s.lease l).reviewSpan = 0 ∧ (s.lease l).curbLength = 0
     | .capped =>
       (s.lease l).regime = .watch ∧ (s.lease l).reviewAccumulator = 0 ∧ (s.lease l).reviewCounter = 0 ∧
       (s.lease l).curbRemaining = 0 ∧ (s.lease l).watchThreshold = 0 ∧ (s.lease l).reviewSpan = 0 ∧ (s.lease l).curbLength = 0)

/-- R112, R113: a release runs or pauses only on a non-empty hold queue. -/
abbrev ReleaseLaw (s : State) : Prop := ∀ l : LeaseId, s.release l ≠ .idle → s.holdQueue l ≠ []

/-- All the laws together. -/
structure SafeState (s : State) : Prop where
  attention : AttentionLaw s
  credit : CreditLaw s
  stream : StreamLaw s
  boundSlot : BoundSlotLaw s
  hold : HoldLaw s
  outstanding : OutstandingLaw s
  queue : QueueLaw s
  committed : CommittedLaw s
  leaseZero : LeaseZeroLaw s
  engine : EngineLaw s
  engineRequest : EngineRequestLaw s
  link : LinkLaw s
  port : PortLaw s
  leaseState : LeaseStateLaw s
  period : PeriodLaw s
  regime : RegimeLaw s
  release : ReleaseLaw s

/-! ### Terms of the statements -/

/-- The engine's fetch stands at the memory side: LINK_UP, BUSY at FETCH with its request ISSUED, under tag `t` alone, on lease 0,
which is OPEN and counts the tag (R140, R145, R146). -/
structure FetchStands (s : State) (t : TagId) (f : IssuedTag) (stopPending : Bool) : Prop where
  up : s.link = .up
  busy : s.engine.state = .busy .fetch .issued stopPending
  tag : s.tag t = .issued f
  ofEngine : f.origin = .engine
  alone : ∀ u : TagId, u ≠ t → Tag.isEngine (s.tag u) = false
  ofLeaseZero : f.lease = 0
  opened : (s.lease 0).state = .opened
  counted : 0 < (s.lease 0).outstanding

/-- The engine's tag ends in an OK answer (R129, R140): tag `t` FREE, outstanding of lease 0 lower by 1. -/
def fetchEnded (s : State) (t : TagId) : State :=
  (s.setTag t .free).setLease 0 { s.lease 0 with outstanding := (s.lease 0).outstanding - 1 }

/-- The engine goes on to the completion write of a command whose status and result are decided: the fetch index one slot on
(R147), code and sequence number as fetched (R148). -/
def commandTaken (s : State) (r : Beat) (status : CommandStatus) (result : Nat) (stopPending : Bool) : State :=
  { s with engine := { s.engine with
      fetch := (s.engine.fetch + 1) % s.engine.ringSize
      state := .busy
        (.completion { code := recordCode r, sequence := recordSequence r, status := status, result := BitVec.ofNat 32 result })
        .presented stopPending } }

/-- The row of the table for each of the twelve command codes (R185). -/
def ringRow (code : Fin 12) (body : RecordBody) : Instr :=
  match code with
  | 0 => .nop body
  | 1 => .openLease body
  | 2 => .resizeLease body
  | 3 => .renewLease body
  | 4 => .suspendLease body
  | 5 => .resumeLease body
  | 6 => .retireLease body
  | 7 => .bindStream body
  | 8 => .unbindStream body
  | 9 => .queryLease body
  | 10 => .ackAttention body
  | 11 => .setCapacity body

/-- The reason set of a lease on which a reason is raised (R10). -/
def Lease.raised (r : Lease) (why : Reason) : ReasonSet := if r.notify &&& why.mask = 0 then r.reasons else r.reasons ||| why.mask

/-- The attention set when the reason set of lease `l` becomes `after` by raisings (R178): a lease whose reason set was empty and is
so no more joins it. -/
def State.attentionAfter (s : State) (l : LeaseId) (after : ReasonSet) : BitVec 64 :=
  if (s.lease l).reasons = 0 ∧ after ≠ 0 then s.attention ||| 1#64 <<< l.val else s.attention

/-- The interrupt status when the reason set of lease `l` becomes `after` by raisings (R178, R179): a lease that joins the attention
set sets ATTENTION. -/
def State.statusAfter (s : State) (l : LeaseId) (after : ReasonSet) : BitVec 6 :=
  if (s.lease l).reasons = 0 ∧ after ≠ 0 then s.intStatus ||| 0b000001#6 else s.intStatus

/-- A period timer at the drain completion of its lease (R28). -/
def PeriodTimer.drained (t : PeriodTimer) : PeriodTimer := { t with count := 0, running := false }

/-- The record a drain completion leaves (R19): FREE, both sets kept, FREED joined when the notify set holds it. -/
def Lease.drained (r : Lease) : Lease :=
  Lease.freeRecord r.notify (r.raised .freed)

/-- A memory fault on a lease record (R8, R10): the fault count rises by 1, saturating, and FAULT joins the reason set when the
notify set holds it. -/
def Lease.faulted (r : Lease) : Lease :=
  { r with
    faultCount := min (r.faultCount + 1) Config.max32
    reasons := r.raised .fault }

/-- A fall of outstanding on a lease record (R123, R19, R20). -/
def Lease.fallen (r : Lease) : Lease :=
  if r.outstanding = 0 then r
  else if r.state = .draining ∧ r.outstanding = 1 then r.drained
  else { r with outstanding := r.outstanding - 1 }

/-- `n` falls of outstanding taken one after another on a lease record. -/
def Lease.fallenBy (r : Lease) (n : Nat) : Lease :=
  if r.state = .draining ∧ 0 < r.outstanding ∧ r.outstanding ≤ n then r.drained
  else { r with outstanding := r.outstanding - n }

/-- What a memory port reset sends (R137 step 1): ABORTED for each ISSUED tag of a port that is not muted, in tag order. -/
def abortResponses (s : State) : List Response :=
  (List.finRange 32).filterMap fun t =>
    match s.tag t with
    | .issued f =>
      match f.origin with
      | .client p id => if f.muted then none else some { port := p, clientId := id, status := .aborted, data := [] }
      | .engine => none
    | .free => none
    | .orphaned => none

/-- What drain start sends (R16 step 3): REFUSED_RETIRED for each held request, in join order. -/
def retiredResponses (q : List HeldEntry) : List Response :=
  q.map fun e => { port := e.port, clientId := e.clientId, status := .refusedRetired, data := [] }

end Sys2Proof.Machine
end

