-- ==== Sys2Proof/WellFormed.lean ====
section
/-!
DEFINITION. Which operands a command may carry: what the link, the window and the ring let a sender form. The meanings are
total all the same and give an ill-formed command the effect its rule gives it (entries 15, 16 and 18).
-/

namespace Sys2Proof

/-- The beats of write data a request carries: as many as a WRITE's length when that is 1 to 16, none otherwise (R68). -/
def PortRequest.expectedBeats (r : PortRequest) : Nat :=
  match r.direction with
  | .read => 0
  | .write => if 1 ≤ r.length.val ∧ r.length.val ≤ 16 then r.length.val else 0

/-- A request whose header and data beats have all arrived (R68). -/
def PortRequest.whole (r : PortRequest) : Bool := r.data.length == r.expectedBeats

/-- Offsets of the window whose writes are rows of their own (Table 11-2); ENGINE_CONTROL is treated apart. -/
def ownRowOffsets : List Word := [0x010, 0x014, 0x018, 0x01C, 0x028, 0x02C, 0x034]

/-- A REGISTER_WRITE is a whole-word write (R181) that no other row stands for: ENGINE_CONTROL with code 0 or 7 (R182), or
an offset without a row of its own. -/
def otherWindowWrite (offset value : Word) : Bool :=
  offset.toNat % 4 == 0 &&
    (if offset = 0x000 then value.toNat % 8 == 0 || value.toNat % 8 == 7 else !ownRowOffsets.contains offset)

/-- The well-formed commands. -/
def Instr.wellFormed : Instr → Bool
  | .powerOnReset => true
  | .softReset => true
  | .memoryPortReset => true
  | .memorySideReset => true
  | .portReset _ => true
  | .clientPortReset _ => true
  | .start => true
  | .stop => true
  | .clearHalt => true
  | .submitIndexWrite _ => true
  | .ringBaseWrite _ _ => true
  | .ringSizeWrite _ => true
  | .intStatusWrite _ => true
  | .intEnableWrite _ => true
  | .timebaseMhzWrite _ => true
  | .registerWrite offset value => otherWindowWrite offset value
  | .microsecondEvent => true
  | .periodTimerExpiry _ => true
  | .periodEnd _ => true
  | .stallExpiry _ => true
  | .responseTimeout _ => true
  | .requestArrival _ request => request.whole
  | .portHeadExamination => true
  | .releasedEntryExamination => true
  | .engineRequestExamination => true
  | .issue => true
  | .memoryResponse _ status data =>
    match status with
    | .ok => decide (data.length ≤ 16)
    | .error => data.isEmpty
  | .readySignal => true
  | .nop _ => true
  | .openLease _ => true
  | .resizeLease _ => true
  | .renewLease _ => true
  | .suspendLease _ => true
  | .resumeLease _ => true
  | .retireLease _ => true
  | .bindStream _ => true
  | .unbindStream _ => true
  | .queryLease _ => true
  | .ackAttention _ => true
  | .setCapacity _ => true
  | .readyLevelDeasserted => true
  | .unknownCommandCode code _ => decide (12 ≤ code.toNat)

end Sys2Proof
end

