-- ==== Sys2Proof/Certificates/Slice0/Obligations.lean ====
section
/-!
DEFINITION. The statements for the provers. A next state is written out in full wherever it can be, so that what a command
leaves alone is part of the statement.
-/

open Sys2Proof Sys2Proof.Machine

/-! ### The queue of commands and the step -/

/-- The step takes the command at the front of the queue and runs it on the state with the queue's rest. -/
def Obligations.StepRunsFrontCommand : Prop :=
  ∀ (c : Instr) (rest : List Instr) (s : State), step { s with pending := c :: rest } = exec c { s with pending := rest }

/-- Every command is taken, none of them stops the controller; what was sent on a link is not withdrawn (R78, R126). That the queue and
the two histories outlast every command, POWER_ON_RESET too, is the model's choice (DESIGN CHOICE, entries 3 and 13). -/
def Obligations.EveryCommandIsTaken : Prop :=
  ∀ (c : Instr) (s : State), ∃ t : State, exec c s = .next t ∧
    t.pending = s.pending ∧ s.sent <+: t.sent ∧ s.memoryOut <+: t.memoryOut

/-! ### Reset -/

/-- What power-on reset leaves: the lease table, the period timers, the stream map, the queues and tags, and every register of the
management window. -/
def Obligations.ResetValues : Prop :=
  let z := State.reset
  ((z.lease 0).state = .opened ∧ (z.lease 0).cls = .guaranteed ∧ (z.lease 0).k = 0 ∧ (z.lease 0).budget = 16 ∧
    (z.lease 0).carryLimit = 0 ∧ (z.lease 0).credit = 16 ∧ (z.lease 0).spent = 0 ∧ (z.lease 0).term = 0 ∧
    (z.lease 0).periodsRemaining = 0 ∧ (z.lease 0).holdLimit = 0 ∧ (z.lease 0).overdrawPermitted = false ∧
    (z.lease 0).fence = none ∧ (z.lease 0).notify = 0 ∧ (z.lease 0).reasons = 0 ∧ (z.lease 0).admittedBeats = 0 ∧
    (z.lease 0).overdrawBeats = 0 ∧ (z.lease 0).heldTotal = 0 ∧ (z.lease 0).refusedCount = 0 ∧ (z.lease 0).faultCount = 0 ∧
    (z.lease 0).outstanding = 0 ∧ (z.lease 0).heldCount = 0 ∧ (z.lease 0).boundSlots = 0) ∧
  (∀ l : LeaseId, l ≠ 0 → z.lease l = Lease.freeRecord 0 0) ∧
  z.timer 0 = { count := 0, running := true, raised := 0 } ∧
  (∀ l : LeaseId, l ≠ 0 → z.timer l = { count := 0, running := false, raised := 0 }) ∧
  (∀ (p : PortId) (t : StreamTag), z.slot p t = none) ∧
  (∀ p : PortId, (z.port p).fifo = [] ∧ (z.port p).head = .idle ∧ (z.port p).stallTimer = 0 ∧ (z.port p).examined = none) ∧
  (∀ l : LeaseId, z.holdQueue l = [] ∧ z.release l = .idle) ∧
  z.lastServed = 71 ∧ ringItem z.lastServed = .release 63 ∧
  z.gQueue = [] ∧ z.sQueue = [] ∧ z.gRun = 0 ∧ (∀ t : TagId, z.tag t = .free) ∧
  interruptLine z = false ∧
  windowRead z 0x000 = 0 ∧ windowRead z 0x004 = 0 ∧ windowRead z 0x008 = 0 ∧ windowRead z 0x010 = 0 ∧
  windowRead z 0x014 = 0 ∧ windowRead z 0x018 = 16 ∧ windowRead z 0x01C = 0 ∧ windowRead z 0x020 = 0 ∧
  windowRead z 0x028 = 0 ∧ windowRead z 0x02C = 0 ∧ windowRead z 0x030 = 0 ∧ windowRead z 0x034 = 200 ∧
  windowRead z 0x038 = 500 ∧ (∀ p : Fin 8, windowRead z (0x040 + 4 * BitVec.ofNat 32 p.val) = 0) ∧
  windowRead z 0x060 = 1048576 ∧ windowRead z 0x064 = 65536 ∧ windowRead z 0x068 = 0 ∧ windowRead z 0x06C = 0 ∧
  windowRead z 0x070 = 96 ∧ windowRead z 0x074 = 0 ∧ windowRead z 0x078 = 0

/-- The laws of the controller's state hold at power-on reset. -/
def Obligations.LawsHoldAtReset : Prop := SafeState State.reset

/-- POWER_ON_RESET: every block takes its power-on values; a ready level held at the release makes the link LINK_UP; each port takes
what its client keeps on the link. What stands outside the controller stays (DESIGN CHOICE, entry 13). -/
def Obligations.PowerOnResetTakesPowerOnValues : Prop :=
  ∀ s : State, ∃ t : State, exec .powerOnReset s = .next t ∧
    t = { State.reset with
      ports := t.ports
      link := if s.readyLevel then .up else .down
      readyLevel := s.readyLevel
      sent := s.sent
      memoryOut := s.memoryOut
      freeIndex := s.freeIndex
      delayed := s.delayed
      pending := s.pending } ∧
    ∀ p : PortId, t.port p = Port.settle
      { fifo := [], head := .idle, stallTimer := 0, stallLimit := 0, examined := none, link := (s.port p).link,
        triggers := 0 }

/-- SOFT_RESET: power-on values but for the management configuration, the link state and the tags, of which the ISSUED become
ORPHANED; nothing is sent. -/
def Obligations.SoftResetKeepsConfiguration : Prop :=
  ∀ s : State, ∃ t : State, exec .softReset s = .next t ∧
    t = { State.reset with
      timebase := { mhz := s.timebase.mhz, divisor := s.timebase.mhz, cycles := 0 }
      ports := t.ports
      tags := t.tags
      link := s.link
      readyLevel := s.readyLevel
      responseTimeout := s.responseTimeout
      engine := { State.reset.engine with
        ringBase := s.engine.ringBase
        ringSize := s.engine.ringSize
        completionMode := s.engine.completionMode }
      intEnable := s.intEnable
      sent := s.sent
      memoryOut := s.memoryOut
      freeIndex := s.freeIndex
      delayed := s.delayed
      pending := s.pending } ∧
    (∀ p : PortId, t.port p = Port.settle
      { fifo := [], head := .idle, stallTimer := 0, stallLimit := (s.port p).stallLimit, examined := none,
        link := (s.port p).link, triggers := 0 }) ∧
    (∀ k : TagId, t.tag k = match s.tag k with | .free => .free | .issued _ => .orphaned | .orphaned => .orphaned)

/-- A memory port reset from either side: every tag FREE, ABORTED sent in tag order, outstanding lowered by each ISSUED tag with drain
completion where it reaches 0 (timer count 0, FREED raised, ATTENTION when the lease joins the attention set), the engine halted
with HALT set when a tag was its own, the link LINK_DOWN, LINK_RESET set, everything else kept and no trigger handed.
MEMORY_PORT_RESET signals the reset on the link as well. -/
def Obligations.MemoryPortResetEndsEveryTag : Prop :=
  ∀ s : State, ∃ t : State, exec .memorySideReset s = .next t ∧
    exec .memoryPortReset s = .next { t with memoryOut := t.memoryOut ++ [.resetSignal] } ∧
    t = { s with
      leases := t.leases
      timers := t.timers
      tags := t.tags
      link := .down
      engine := t.engine
      attention := t.attention
      intStatus := s.intStatus ||| 0b100000#6 |||
        (if 0 < s.tags.toList.countP Tag.isEngine then
          match s.engine.state with
          | .busy _ _ _ => 0b000100#6
          | _ => 0
         else 0) |||
        (if ∃ l : LeaseId, (s.lease l).reasons = 0 ∧ (t.lease l).reasons ≠ 0 then 0b000001#6 else 0)
      sent := s.sent ++ abortResponses s } ∧
    (∀ k : TagId, t.tag k = .free) ∧
    (∀ l : LeaseId,
      let ended := s.tags.toList.countP (Tag.names l)
      t.lease l = (s.lease l).fallenBy ended ∧
      t.timer l = (if (s.lease l).state = .draining ∧ 0 < (s.lease l).outstanding ∧ (s.lease l).outstanding ≤ ended then
        { s.timer l with count := 0, running := false } else s.timer l) ∧
      t.attention.getLsbD l.val =
        (s.attention.getLsbD l.val || decide ((s.lease l).reasons = 0 ∧ (t.lease l).reasons ≠ 0))) ∧
    t.engine = (if 0 < s.tags.toList.countP Tag.isEngine then
      match s.engine.state with
      | .busy step _ _ => { s.engine with
          state := .halted, fetch := s.engine.complete,
          fault := { slot := s.engine.complete, step := step.faultStep, cause := .memoryAbort } }
      | _ => s.engine
      else s.engine)

/-- A client port reset: FIFO, held entries and dispatch entries of the port go without response, its ISSUED tags are muted, held
counts and outstanding fall with them (drain completion with its timer, FREED and ATTENTION), the removals hand one trigger to the
other ports, the engine's request and the paused releases, and the port accepts from its link at once. That the port keeps the
triggers handed to it before is entry 7. -/
def Obligations.ClientPortResetRemovesPortWork : Prop :=
  ∀ (s : State) (p : PortId), ∃ t : State, exec (.clientPortReset p) s = .next t ∧
    let own (e : DispatchEntry) : Bool := match e.origin with
      | .client q _ => decide (q = p)
      | .engine => false
    let ownHeld (l : LeaseId) : Nat := (s.holdQueue l).countP fun e => decide (e.port = p)
    let removed : Bool := (s.gQueue ++ s.sQueue).any own || (List.finRange 64).any fun l => decide (0 < ownHeld l)
    t = { s with
      leases := t.leases
      timers := t.timers
      ports := t.ports
      holdQueues := t.holdQueues
      releases := t.releases
      poolFree := s.poolFree + ((List.finRange 64).map ownHeld).sum
      gQueue := s.gQueue.filter fun e => !own e
      sQueue := s.sQueue.filter fun e => !own e
      tags := t.tags
      engine := { s.engine with state :=
        match s.engine.state with
        | .busy step .waiting stopPending => if removed then .busy step .presented stopPending else s.engine.state
        | x => x }
      attention := t.attention
      intStatus :=
        if ∃ l : LeaseId, (s.lease l).reasons = 0 ∧ (t.lease l).reasons ≠ 0 then s.intStatus ||| 0b000001#6
        else s.intStatus } ∧
    t.port p = Port.settle { s.port p with fifo := [], head := .idle, stallTimer := 0, examined := none } ∧
    (∀ q : PortId, q ≠ p →
      t.port q = if removed then { s.port q with triggers := (s.port q).triggers + 1 } else s.port q) ∧
    (∀ l : LeaseId,
      let fallen := (s.gQueue ++ s.sQueue).countP fun e => own e && decide (e.lease = l)
      t.holdQueue l = (s.holdQueue l).filter (fun e => decide (e.port ≠ p)) ∧
      t.release l = (if t.holdQueue l = [] ∧ s.holdQueue l ≠ [] then .idle
        else if removed ∧ s.release l = .paused then .running else s.release l) ∧
      t.lease l = Lease.fallenBy { s.lease l with heldCount := (s.lease l).heldCount - ownHeld l } fallen ∧
      t.timer l = (if (s.lease l).state = .draining ∧ 0 < (s.lease l).outstanding ∧ (s.lease l).outstanding ≤ fallen then
        { s.timer l with count := 0, running := false } else s.timer l) ∧
      t.attention.getLsbD l.val =
        (s.attention.getLsbD l.val || decide ((s.lease l).reasons = 0 ∧ (t.lease l).reasons ≠ 0))) ∧
    (∀ k : TagId, t.tag k = match s.tag k with
      | .issued f => .issued { f with muted := f.muted ||
          match f.origin with
          | .client q _ => decide (q = p)
          | .engine => false }
      | x => x)

/-- PORT_RESET takes a client port reset of each port its mask names, each as a claim of its own; the order P0 to P7 is a DESIGN CHOICE
(entry 14). A mask of 0 resets no port. -/
def Obligations.PortResetTakesEachNamedPort : Prop :=
  ∀ (s : State) (mask : Byte), ∃ claim : Fin 9 → State, claim 0 = s ∧ exec (.portReset mask) s = .next (claim 8) ∧
    ∀ p : PortId, if mask.getLsbD p.val then exec (.clientPortReset p) (claim p.castSucc) = .next (claim p.succ)
      else claim p.succ = claim p.castSucc

/-! ### The management window -/

/-- Table 9-3: what START, STOP and CLEAR_HALT do in each engine state, the fetch index being a slot of the ring. -/
def Obligations.EngineControlsByState : Prop :=
  ∀ s : State, s.engine.fetch < s.engine.ringSize →
    (s.engine.state = .stopped →
      exec .start s = .next (s.setEngineState (if s.engine.submit = s.engine.fetch then .idle else .busy .fetch .presented false)) ∧
      exec .stop s = .next s ∧ exec .clearHalt s = .next s) ∧
    (s.engine.state = .idle →
      exec .start s = .next s ∧ exec .stop s = .next (s.setEngineState .stopped) ∧ exec .clearHalt s = .next s) ∧
    (∀ step phase stopPending, s.engine.state = .busy step phase stopPending →
      exec .start s = .next s ∧ exec .stop s = .next (s.setEngineState (.busy step phase true)) ∧
      exec .clearHalt s = .next s) ∧
    (s.engine.state = .halted →
      exec .start s = .next s ∧ exec .stop s = .next s ∧ exec .clearHalt s = .next (s.setEngineState .stopped))

/-- A write of SUBMIT_INDEX: ignored at or above the ring size, and in BUSY at the complete index; otherwise taken, and in IDLE a
write that leaves a command pending moves the engine to BUSY at the fetch step. -/
def Obligations.SubmitIndexWriteByState : Prop :=
  ∀ (s : State) (v : Word), s.engine.fetch < s.engine.ringSize →
    (s.engine.ringSize ≤ v.toNat → exec (.submitIndexWrite v) s = .next s) ∧
    (v.toNat < s.engine.ringSize →
      (∀ step phase stopPending, s.engine.state = .busy step phase stopPending →
        exec (.submitIndexWrite v) s =
          .next (if v.toNat = s.engine.complete then s else { s with engine := { s.engine with submit := v.toNat } })) ∧
      (s.engine.state = .stopped ∨ s.engine.state = .halted →
        exec (.submitIndexWrite v) s = .next { s with engine := { s.engine with submit := v.toNat } }) ∧
      (s.engine.state = .idle →
        exec (.submitIndexWrite v) s = .next { s with engine := { s.engine with
          submit := v.toNat
          state := if v.toNat = s.engine.fetch then .idle else .busy .fetch .presented false } }))

/-- Writes of RING_BASE and RING_SIZE are taken in STOPPED alone: the word's address bits with the low 12 zero, one of the five slot
counts, and all three indices 0. -/
def Obligations.RingConfigurationWrites : Prop :=
  ∀ (s : State) (v : Word),
    (s.engine.state = .stopped →
      (∃ base : Address, exec (.ringBaseWrite 0 v) s = .next { s with engine := { s.engine with
          ringBase := base, submit := 0, fetch := 0, complete := 0 } } ∧
        base.extractLsb' 0 12 = 0 ∧ base.extractLsb' 12 20 = v.extractLsb' 12 20 ∧
        base.extractLsb' 32 8 = s.engine.ringBase.extractLsb' 32 8) ∧
      (∃ base : Address, exec (.ringBaseWrite 1 v) s = .next { s with engine := { s.engine with
          ringBase := base, submit := 0, fetch := 0, complete := 0 } } ∧
        base.extractLsb' 0 32 = s.engine.ringBase.extractLsb' 0 32 ∧ base.extractLsb' 32 8 = v.extractLsb' 0 8) ∧
      exec (.ringSizeWrite v) s = .next
        (if v = 16 ∨ v = 32 ∨ v = 64 ∨ v = 128 ∨ v = 256 then
          { s with engine := { s.engine with ringSize := v.toNat, submit := 0, fetch := 0, complete := 0 } }
         else s)) ∧
    (s.engine.state ≠ .stopped →
      (∀ word : Fin 2, exec (.ringBaseWrite word v) s = .next s) ∧ exec (.ringSizeWrite v) s = .next s)

/-- INT_STATUS clears what is written as 1; INT_ENABLE takes bits 5:0, is kept by every reset but power-on and read back with the upper
bits zero; the interrupt line is high exactly while a source is both set and enabled, so low after a soft reset. -/
def Obligations.InterruptRegistersAndLine : Prop :=
  State.reset.intEnable = 0 ∧
  ∀ (s : State) (v : Word),
    (∃ left : BitVec 6, exec (.intStatusWrite v) s = .next { s with intStatus := left } ∧
      ∀ i : Nat, i < 6 → left.getLsbD i = (s.intStatus.getLsbD i && !v.getLsbD i)) ∧
    (∃ enabled : BitVec 6, exec (.intEnableWrite v) s = .next { s with intEnable := enabled } ∧
      ∀ i : Nat, i < 6 → enabled.getLsbD i = v.getLsbD i) ∧
    windowRead s 0x02C = s.intEnable.zeroExtend 32 ∧ windowRead s 0x028 = s.intStatus.zeroExtend 32 ∧
    (interruptLine s = true ↔ ∃ src : Source, s.intStatus &&& src.mask ≠ 0 ∧ s.intEnable &&& src.mask ≠ 0) ∧
    (∀ (src : Source) (i : Nat), (setSource src s).intStatus.getLsbD i = (s.intStatus.getLsbD i || src.mask.getLsbD i)) ∧
    (∀ (c : Instr) (t : State),
      (c = .softReset ∨ c = .memoryPortReset ∨ c = .memorySideReset ∨ (∃ p, c = .clientPortReset p) ∨ ∃ m, c = .portReset m) →
      exec c s = .next t → t.intEnable = s.intEnable) ∧
    (∃ t : State, exec .softReset s = .next t ∧ interruptLine t = false)

/-- A write of TIMEBASE_MHZ takes a value from 50 to 400 and leaves the microsecond in progress its divisor; any other window write
takes the register at its offset: the limits to 65,535, the two completion modes, the codes 0 and 7 of ENGINE_CONTROL none,
read-only and unnamed offsets none. -/
def Obligations.TimebaseAndRegisterWrites : Prop :=
  ∀ (s : State) (v : Word),
    exec (.timebaseMhzWrite v) s = .next
      (if 50 ≤ v.toNat ∧ v.toNat ≤ 400 then { s with timebase := { s.timebase with mhz := v.toNat } } else s) ∧
    exec (.registerWrite 0x038 v) s = .next (if v.toNat ≤ 65535 then { s with responseTimeout := v.toNat } else s) ∧
    (∀ p : PortId, exec (.registerWrite (0x040 + 4 * BitVec.ofNat 32 p.val) v) s = .next
      (if v.toNat ≤ 65535 then s.setPort p { s.port p with stallLimit := v.toNat } else s)) ∧
    exec (.registerWrite 0x030 v) s = .next
      (if v = 0 then { s with engine := { s.engine with completionMode := .each } }
       else if v = 1 then { s with engine := { s.engine with completionMode := .caughtUp } } else s) ∧
    (v.toNat % 8 = 0 ∨ v.toNat % 8 = 7 → exec (.registerWrite 0x000 v) s = .next s) ∧
    (∀ offset : Word, offset ∈ ([0x004, 0x008, 0x020, 0x060, 0x064, 0x068, 0x06C, 0x070, 0x074, 0x078] : List Word) ∨
        registerAt offset = none → exec (.registerWrite offset v) s = .next s) ∧
    (∀ offset : Word, registerAt offset = none → windowRead s offset = 0)

/-! ### Time -/

/-- On an empty queue the step is one core clock cycle of the divider, which completes its count with a microsecond event (the cycle
as the idle step is a DESIGN CHOICE, entry 5). A microsecond event, after the ports have taken triggers (DESIGN CHOICE, entry 7): the
divider begins a count at the divisor now held; every running period timer counts, raising a period end at its length; then each
port (in the order P0 to P7) and each tag (0 to 31) counts or takes its expiry (the order is a DESIGN CHOICE, entry 8). A port's
stall expiry is due exactly on a BLOCKED head with a limit that is not 0 and that the count reaches, a tag's response timeout
exactly on an ISSUED tag with such a limit: then the event is the row of that expiry, otherwise it counts a BLOCKED head or an
ISSUED tag and the row changes nothing. PERIOD_TIMER_EXPIRY is the same count on one timer (entry 8). -/
def Obligations.MicrosecondEventCountsEveryTimer : Prop :=
  (∀ s : State, s.pending = [] →
    step s = if s.timebase.divisor ≤ s.timebase.cycles + 1 then exec .microsecondEvent s
      else .next { s with timebase := { s.timebase with cycles := s.timebase.cycles + 1 } }) ∧
  (∀ s : State, ∃ t : State,
    exec .microsecondEvent s = .next ((List.finRange 32).foldl (fun s t => tickTag t s) ((List.finRange 8).foldl
      (fun s p => tickPort p s) t)) ∧
    t = { takeTriggers s with timebase := { s.timebase with divisor := s.timebase.mhz, cycles := 0 }, timers := t.timers } ∧
    ∀ l : LeaseId, t.timer l =
      if (s.timer l).running = false then s.timer l
      else if (s.timer l).count + 1 < 16 * 2 ^ (s.lease l).k then { s.timer l with count := (s.timer l).count + 1 }
      else { s.timer l with count := 0, raised := (s.timer l).raised + 1 }) ∧
  (∀ (s : State) (p : PortId),
    let u := s.port p
    if u.head = .blocked ∧ u.fifo ≠ [] ∧ u.stallLimit ≠ 0 ∧ u.stallLimit ≤ min (u.stallTimer + 1) 65535 then
      exec (.stallExpiry p) s = .next (tickPort p s)
    else
      exec (.stallExpiry p) s = .next s ∧
        tickPort p s = if u.head = .blocked then s.setPort p { u with stallTimer := min (u.stallTimer + 1) 65535 } else s) ∧
  (∀ (s : State) (k : TagId),
    match s.tag k with
    | .issued f =>
      if s.responseTimeout ≠ 0 ∧ s.responseTimeout ≤ min (f.timer + 1) 65535 then
        exec (.responseTimeout k) s = .next (tickTag k s)
      else
        exec (.responseTimeout k) s = .next s ∧
          tickTag k s = s.setTag k (.issued { f with timer := min (f.timer + 1) 65535 })
    | .free => exec (.responseTimeout k) s = .next s ∧ tickTag k s = s
    | .orphaned => exec (.responseTimeout k) s = .next s ∧ tickTag k s = s) ∧
  (∀ (s : State) (l : LeaseId),
    exec (.periodTimerExpiry l) s = .next
      (if (s.timer l).running = true ∧ 16 * 2 ^ (s.lease l).k ≤ (s.timer l).count + 1 then
        s.setTimer l { s.timer l with count := 0, raised := (s.timer l).raised + 1 } else s))

/-- The period end of a GUARANTEED or CAPPED lease that does not expire: periods remaining of a termed lease falls by 1, credit
becomes the budget plus the carry, spent 0; an OPEN lease with held requests is released, and one trigger is handed. -/
def Obligations.PeriodEndRefills : Prop :=
  ∀ (s : State) (l : LeaseId),
    (s.timer l).raised ≠ 0 → ((s.lease l).state = .opened ∨ (s.lease l).state = .suspended) → (s.lease l).cls ≠ .shared →
    ((s.lease l).term = 0 ∨ 1 < (s.lease l).periodsRemaining) →
    ∃ t : State, exec (.periodEnd l) s = .next (handTrigger t) ∧
      t = { s with leases := t.leases, timers := t.timers, releases := t.releases } ∧
      t.leases = s.leases.set l.val { s.lease l with
        periodsRemaining := if (s.lease l).term = 0 then (s.lease l).periodsRemaining else (s.lease l).periodsRemaining - 1
        credit := (s.lease l).budget + min ((s.lease l).credit - (s.lease l).spent) (s.lease l).carryLimit
        spent := 0 } ∧
      t.timers = s.timers.set l.val { s.timer l with raised := (s.timer l).raised - 1 } ∧
      t.releases = (if (s.lease l).state = .opened ∧ s.holdQueue l ≠ [] then s.releases.set l.val .running else s.releases)

/-- The raising of a reason: it joins the reason set of a lease whose notify set holds it, and a lease whose reason set was empty joins
the attention set, with ATTENTION set. And the period end of a SHARED lease that does not expire: Table 3-2 row by row, with credit
the budget and spent 0 in every row, CURBED raised on entry to CURB, the release and the trigger. -/
def Obligations.PeriodEndStepsRegime : Prop :=
  (∀ (s : State) (l : LeaseId) (why : Reason),
    let mask : ReasonSet := match why with
      | .expired => 0b0001#4
      | .curbed => 0b0010#4
      | .freed => 0b0100#4
      | .fault => 0b1000#4
    raiseReason l why s =
      if (s.lease l).notify &&& mask = 0 then s
      else { s with
        leases := s.leases.set l.val { s.lease l with reasons := (s.lease l).reasons ||| mask }
        attention := if (s.lease l).reasons = 0 then s.attention ||| 1#64 <<< l.val else s.attention
        intStatus := if (s.lease l).reasons = 0 then s.intStatus ||| 0b000001#6 else s.intStatus }) ∧
  ∀ (s : State) (l : LeaseId),
    (s.timer l).raised ≠ 0 → ((s.lease l).state = .opened ∨ (s.lease l).state = .suspended) → (s.lease l).cls = .shared →
    ((s.lease l).term = 0 ∨ 1 < (s.lease l).periodsRemaining) →
    let old := s.lease l
    let sum := min (old.reviewAccumulator + old.spent) 4294967295
    let base := { old with
      periodsRemaining := if old.term = 0 then old.periodsRemaining else old.periodsRemaining - 1
      credit := old.budget
      spent := 0 }
    let stepped :=
      match old.regime with
      | .watch =>
        if 1 < old.reviewCounter then { base with reviewAccumulator := sum, reviewCounter := old.reviewCounter - 1 }
        else if old.watchThreshold < sum then
          { base with regime := .curb, reviewAccumulator := sum, reviewCounter := 0, curbRemaining := old.curbLength }
        else { base with reviewAccumulator := 0, reviewCounter := old.reviewSpan }
      | .curb =>
        if 1 < old.curbRemaining then { base with curbRemaining := old.curbRemaining - 1 }
        else { base with regime := .watch, reviewAccumulator := 0, reviewCounter := old.reviewSpan, curbRemaining := 0 }
    let counted := (s.setTimer l { s.timer l with raised := (s.timer l).raised - 1 }).setLease l stepped
    let raised := if old.regime = .watch ∧ stepped.regime = .curb then raiseReason l .curbed counted else counted
    exec (.periodEnd l) s = .next (handTrigger
      (if old.state = .opened ∧ s.holdQueue l ≠ [] then raised.setRelease l .running else raised))

/-- The period end that brings periods remaining to 0 takes drain start with cause EXPIRED and nothing else of a period end; a lease
with no period end raised, and one that is FREE or DRAINING, takes none. -/
def Obligations.PeriodEndExpires : Prop :=
  ∀ (s : State) (l : LeaseId),
    ((s.timer l).raised ≠ 0 → ((s.lease l).state = .opened ∨ (s.lease l).state = .suspended) → (s.lease l).term ≠ 0 →
      (s.lease l).periodsRemaining ≤ 1 →
      exec (.periodEnd l) s = .next (drainStart l .expired
        ((s.setTimer l { s.timer l with raised := (s.timer l).raised - 1 }).setLease l
          { s.lease l with periodsRemaining := 0 }))) ∧
    ((s.timer l).raised = 0 ∨ (s.lease l).state = .free ∨ (s.lease l).state = .draining → exec (.periodEnd l) s = .next s)

/-- A stall expiry on a BLOCKED head whose count reaches the limit: REFUSED_STALLED, the refused count of an examined lease that is not
FREE, PORT_STALL, the next head, and the link's next request. That the row is the microsecond that brings the timer to the limit, so
that `stallTimer + 1` is compared, is the model's choice (DESIGN CHOICE, entry 8). -/
def Obligations.StallExpiryRefusesHead : Prop :=
  ∀ (s : State) (p : PortId) (r : PortRequest) (rest : List PortRequest) (l : LeaseId),
    (s.port p).head = .blocked → (s.port p).fifo = r :: rest → (s.port p).examined = some l → (s.port p).stallLimit ≠ 0 →
    (s.port p).stallLimit ≤ min ((s.port p).stallTimer + 1) 65535 →
    exec (.stallExpiry p) s = .next { s with
      leases := if (s.lease l).state = .free then s.leases
        else s.leases.set l.val { s.lease l with refusedCount := min ((s.lease l).refusedCount + 1) 4294967295 }
      intStatus := s.intStatus ||| Source.portStall.mask
      sent := s.sent ++ [{ port := p, clientId := r.clientId, status := .refusedStalled, data := [] }]
      ports := s.ports.set p.val (Port.settle { s.port p with
        fifo := rest
        head := if rest = [] then .idle else .examining
        stallTimer := 0
        examined := none }) }

/-- A response timeout on an ISSUED tag whose timer reaches the limit, written out in full: TIMEOUT to a client whose tag is not muted,
the fault counted and FAULT raised, the tag ORPHANED, outstanding lower with drain completion at 0 (timer count 0, FREED raised),
ATTENTION when the lease joins the attention set, and the engine halted with HALT set when the tag was its own. That the row is the
microsecond that brings the timer to the limit, so that `timer + 1` is compared, is entry 8. -/
def Obligations.ResponseTimeoutOrphansTag : Prop :=
  ∀ (s : State) (k : TagId) (f : IssuedTag), s.tag k = .issued f → s.responseTimeout ≠ 0 →
    s.responseTimeout ≤ min (f.timer + 1) 65535 →
    let a := s.lease f.lease
    let after := a.faulted.fallen
    let joins := a.reasons = 0 ∧ after.reasons ≠ 0
    let halted (step : EngineStep) : Engine := { s.engine with
      state := .halted
      fetch := s.engine.complete
      fault :=
        { slot := s.engine.complete
          step := match step with | .fetch => .fetch | .snapshot _ _ _ => .snapshot | .completion _ => .completion
          cause := .timeout } }
    exec (.responseTimeout k) s = .next { s with
      leases := s.leases.set f.lease.val after
      timers := if a.state = .draining ∧ a.outstanding = 1 then
          s.timers.set f.lease.val { s.timer f.lease with count := 0, running := false }
        else s.timers
      tags := s.tags.set k.val .orphaned
      engine := match f.origin, s.engine.state with
        | .engine, .busy step _ _ => halted step
        | _, _ => s.engine
      attention := if joins then s.attention ||| 1#64 <<< f.lease.val else s.attention
      intStatus := s.intStatus ||| (if joins then 0b000001#6 else 0) |||
        (match f.origin, s.engine.state with
         | .engine, .busy _ _ _ => 0b000100#6
         | _, _ => 0)
      sent := s.sent ++ (match f.origin with
        | .client p id => if f.muted then [] else [{ port := p, clientId := id, status := .timeout, data := [] }]
        | .engine => []) }

/-! ### Requests -/

/-- A whole request that reaches a port joins its FIFO at the tail while that holds fewer than 8, becoming head, EXAMINING, of an empty
one; otherwise it stays on the link behind those kept there. Whatever stands on a link enters in order, as far as there is
room, when the port next accepts; on an empty FIFO the first of them becomes head, EXAMINING, with timer 0 and no examined lease. -/
def Obligations.RequestArrivalAcceptedOrHeldBack : Prop :=
  (∀ (s : State) (p : PortId) (r : PortRequest), r.whole = true → (s.port p).link = [] →
    ((s.port p).fifo = [] → exec (.requestArrival p r) s = .next (s.setPort p { s.port p with
      fifo := [r], head := .examining, stallTimer := 0, examined := none })) ∧
    (0 < (s.port p).fifo.length ∧ (s.port p).fifo.length < 8 →
      exec (.requestArrival p r) s = .next (s.setPort p { s.port p with fifo := (s.port p).fifo ++ [r] }))) ∧
  (∀ (s : State) (p : PortId) (r : PortRequest), r.whole = true → 8 ≤ (s.port p).fifo.length →
    exec (.requestArrival p r) s = .next (s.setPort p { s.port p with link := (s.port p).link ++ [r] })) ∧
  (∀ u : Port, u.settle.fifo ++ u.settle.link = u.fifo ++ u.link ∧
    (u.fifo.length ≤ 8 → u.settle.fifo.length = min 8 (u.fifo.length + u.link.length)) ∧
    u.settle.stallLimit = u.stallLimit ∧ u.settle.triggers = u.triggers ∧
    (u.link = [] → u.settle = u) ∧
    (u.fifo = [] → u.link ≠ [] → u.settle.head = .examining ∧ u.settle.stallTimer = 0 ∧ u.settle.examined = none) ∧
    (u.fifo ≠ [] → u.settle.head = u.head ∧ u.settle.stallTimer = u.stallTimer ∧ u.settle.examined = u.examined))

/-- The admission unit serves the first waiting position that follows the last-served position in the ring of 72. Positions 0 to 7 are the
ports, waiting with an EXAMINING head; position 8 is the engine, waiting with its request PRESENTED; positions 9 to 71 are the
releases of leases 1 to 63, waiting while RUNNING on a held entry. -/
def Obligations.RoundRobinServesFirstWaiting : Prop :=
  ∀ (s : State) (i : Fin 72),
    (nextServed s = some i ↔
      waiting s i = true ∧ ∀ j : Fin 72, waiting s j = true → (i - s.lastServed - 1).val ≤ (j - s.lastServed - 1).val) ∧
    (∀ p : PortId, i.val = p.val →
      ringItem i = .port p ∧ (waiting s i = true ↔ (s.port p).head = .examining ∧ (s.port p).fifo ≠ [])) ∧
    (i.val = 8 →
      ringItem i = .engine ∧
        (waiting s i = true ↔ ∃ (step : EngineStep) (stopPending : Bool), s.engine.state = .busy step .presented stopPending)) ∧
    (∀ l : LeaseId, l ≠ 0 → i.val = 8 + l.val →
      ringItem i = .release l ∧ (waiting s i = true ↔ s.release l = .running ∧ s.holdQueue l ≠ []))

/-- The form stage: a head whose length, alignment or block fails is refused REFUSED_FORM and leaves its FIFO with every lease record and
the stream map untouched; a head that passes all three tests is not answered REFUSED_FORM. That the ports take
the triggers on their way before it, but for those delayed, is the model's choice (DESIGN CHOICE, entry 7). -/
def Obligations.PortHeadFormStage : Prop :=
  ∀ (z : State) (i : Fin 72) (p : PortId) (r : PortRequest) (rest : List PortRequest),
    let s := takeTriggers z
    nextServed s = some i → ringItem i = .port p → (s.port p).fifo = r :: rest →
    let passes := 1 ≤ r.length.val ∧ r.length.val ≤ 16 ∧ r.address.toNat % 32 = 0 ∧
      r.address.toNat % 4096 + 32 * r.length.val ≤ 4096
    (¬ passes → exec .portHeadExamination z = .next { s with
      lastServed := i
      sent := s.sent ++ [{ port := p, clientId := r.clientId, status := .refusedForm, data := [] }]
      ports := s.ports.set p.val (Port.settle { s.port p with
        fifo := rest
        head := if rest = [] then .idle else .examining
        stallTimer := 0
        examined := none }) }) ∧
    (passes → ∃ (t : State) (out : List Response), exec .portHeadExamination z = .next t ∧
      t.sent = s.sent ++ out ∧ ∀ x ∈ out, x.status ≠ .refusedForm)

/-- The stages after the form stage, for a head that passes it: lookup, fence, oversize, hold test with hold, block or overdraw, charge.
That the ports take the triggers on their way before it, but for those delayed, is the model's choice (DESIGN CHOICE, entry 7). -/
def Obligations.PortHeadStagesAfterForm : Prop :=
  ∀ (z : State) (i : Fin 72) (p : PortId) (r : PortRequest) (rest : List PortRequest),
    let s := takeTriggers z
    nextServed s = some i → ringItem i = .port p → (s.port p).fifo = r :: rest →
    1 ≤ r.length.val ∧ r.length.val ≤ 16 ∧ r.address.toNat % 32 = 0 ∧ r.address.toNat % 4096 + 32 * r.length.val ≤ 4096 →
    let n := r.length.val
    let departed : Port := Port.settle { s.port p with
      fifo := rest, head := if rest = [] then .idle else .examining, stallTimer := 0, examined := none }
    let refused (status : ClientStatus) (t : State) : State := { t with
      lastServed := i
      sent := s.sent ++ [{ port := p, clientId := r.clientId, status := status, data := [] }]
      ports := s.ports.set p.val departed }
    let placed (q : QueueName) (l : LeaseId) : State :=
      State.place { s with lastServed := i, ports := s.ports.set p.val departed } q
        { lease := l, origin := .client p r.clientId, direction := r.direction, address := r.address, length := n, data := r.data }
    (s.slot p r.tag = none → exec .portHeadExamination z = .next (refused .refusedUnbound s)) ∧
    ∀ l : LeaseId, s.slot p r.tag = some l →
      let a := s.lease l
      let counted := s.setLease l { a with refusedCount := min (a.refusedCount + 1) 4294967295 }
      let blocked := { s with lastServed := i, ports := s.ports.set p.val { s.port p with head := .blocked, examined := some l } }
      let limited := a.cls = .guaranteed ∧ a.overdrawPermitted = false ∨ a.cls = .capped ∨ a.cls = .shared ∧ a.regime = .curb
      let tested := a.cls = .guaranteed ∨ a.cls = .capped ∨ a.cls = .shared ∧ a.regime = .curb
      let short := tested ∧ a.credit < a.spent + n
      let mustWait := a.state = .suspended ∨ 0 < a.heldCount ∨ short ∧ a.overdrawPermitted = false
      let target : QueueName := if a.cls = .guaranteed then .g else .s
      let block := r.address.toNat / 4096
      let outside : Bool := match a.fence with
        | none => false
        | some w => decide (block < w.base ∨ w.limit < block ∨ w.access = .read ∧ r.direction = .write ∨
            w.access = .write ∧ r.direction = .read)
      if outside then
        exec .portHeadExamination z = .next (refused .refusedFence counted)
      else if limited ∧ a.budget + a.carryLimit < n then
        exec .portHeadExamination z = .next (refused .refusedOversize counted)
      else if mustWait then
        if a.heldCount < a.holdLimit ∧ 0 < s.poolFree then
          exec .portHeadExamination z = .next { s with
            lastServed := i
            leases := s.leases.set l.val { a with heldCount := a.heldCount + 1, heldTotal := min (a.heldTotal + 1) 4294967295 }
            holdQueues := s.holdQueues.set l.val (s.holdQueue l ++
              [{ port := p, clientId := r.clientId, direction := r.direction, address := r.address, length := n, data := r.data }])
            poolFree := s.poolFree - 1
            ports := s.ports.set p.val departed }
        else exec .portHeadExamination z = .next blocked
      else if short then
        if s.sQueue.length < 16 then
          exec .portHeadExamination z = .next ((placed .s l).setLease l
            { a with overdrawBeats := min (a.overdrawBeats + n) 4294967295, outstanding := a.outstanding + 1 })
        else exec .portHeadExamination z = .next blocked
      else if (s.queue target).length < 16 then
        exec .portHeadExamination z = .next ((placed target l).setLease l { a with
          spent := min (a.spent + n) 4294967295
          credit := if a.cls = .shared ∧ a.regime = .watch then max a.credit (min (a.spent + n) 4294967295) else a.credit
          admittedBeats := min (a.admittedBeats + n) 4294967295
          outstanding := a.outstanding + 1 })
      else exec .portHeadExamination z = .next blocked

/-- The examination of a released entry: STOP when the lease is not OPEN or its credit is short without overdraw, REFUSED when
oversize, PAUSE on a full queue, PLACED otherwise; PLACED and REFUSED free the slot, lower the held count and hand one trigger.
That the ports take the triggers on their way before it, but for those delayed, is the model's choice (DESIGN CHOICE, entry 7). -/
def Obligations.ReleasedEntryStages : Prop :=
  ∀ (z : State) (i : Fin 72) (l : LeaseId) (e : HeldEntry) (rest : List HeldEntry),
    let s := takeTriggers z
    nextServed s = some i → ringItem i = .release l → s.holdQueue l = e :: rest →
    let a := s.lease l
    let n := e.length
    let left (r : Lease) (t : State) : State := handTrigger { t with
      lastServed := i
      leases := s.leases.set l.val { r with heldCount := r.heldCount - 1 }
      holdQueues := s.holdQueues.set l.val rest
      poolFree := s.poolFree + 1
      releases := s.releases.set l.val (if rest = [] then .idle else .running) }
    let entry : DispatchEntry :=
      { lease := l, origin := .client e.port e.clientId, direction := e.direction, address := e.address, length := n, data := e.data }
    let limited := a.cls = .guaranteed ∧ a.overdrawPermitted = false ∨ a.cls = .capped ∨ a.cls = .shared ∧ a.regime = .curb
    let tested := a.cls = .guaranteed ∨ a.cls = .capped ∨ a.cls = .shared ∧ a.regime = .curb
    let short := tested ∧ a.credit < a.spent + n
    let target : QueueName := if a.cls = .guaranteed then .g else .s
    if a.state ≠ .opened then
      exec .releasedEntryExamination z = .next { s with lastServed := i, releases := s.releases.set l.val .idle }
    else if limited ∧ a.budget + a.carryLimit < n then
      exec .releasedEntryExamination z = .next (left { a with refusedCount := min (a.refusedCount + 1) 4294967295 }
        { s with sent := s.sent ++ [{ port := e.port, clientId := e.clientId, status := .refusedOversize, data := [] }] })
    else if short ∧ a.overdrawPermitted = false then
      exec .releasedEntryExamination z = .next { s with lastServed := i, releases := s.releases.set l.val .idle }
    else if short then
      if s.sQueue.length < 16 then
        exec .releasedEntryExamination z = .next (left
          { a with overdrawBeats := min (a.overdrawBeats + n) 4294967295, outstanding := a.outstanding + 1 } (s.place .s entry))
      else exec .releasedEntryExamination z = .next { s with lastServed := i, releases := s.releases.set l.val .paused }
    else if (s.queue target).length < 16 then
      exec .releasedEntryExamination z = .next (left { a with
          spent := min (a.spent + n) 4294967295
          credit := if a.cls = .shared ∧ a.regime = .watch then max a.credit (min (a.spent + n) 4294967295) else a.credit
          admittedBeats := min (a.admittedBeats + n) 4294967295
          outstanding := a.outstanding + 1 }
        (s.place target entry))
    else exec .releasedEntryExamination z = .next { s with lastServed := i, releases := s.releases.set l.val .paused }

/-- The examination of an engine request: WAITING when lease 0's credit is short or the G queue is full, otherwise charged to lease 0
and placed in the G queue with the access of its step. That the ports take
the triggers on their way before it, but for those delayed, is the model's choice (DESIGN CHOICE, entry 7). -/
def Obligations.EngineRequestChargedOrWaits : Prop :=
  ∀ (z : State) (i : Fin 72) (step : EngineStep) (stopPending : Bool),
    let s := takeTriggers z
    nextServed s = some i → ringItem i = .engine → s.engine.state = .busy step .presented stopPending →
    (s.lease 0).cls = .guaranteed →
    let access : Direction × Address × Nat × List Beat :=
      match step with
      | .fetch => (.read, s.engine.ringBase + BitVec.ofNat 40 (32 * s.engine.fetch), 1, [])
      | .snapshot _ address beats => (.write, address, 4, beats)
      | .completion c => (.write, s.engine.ringBase + BitVec.ofNat 40 (32 * s.engine.complete), 1, [completionRecord c])
    let n := access.2.2.1
    let a := s.lease 0
    exec .engineRequestExamination z = .next
      (if a.credit < a.spent + n ∨ 16 ≤ s.gQueue.length then
        { s with lastServed := i, engine := { s.engine with state := .busy step .waiting stopPending } }
       else { s with
        lastServed := i
        engine := { s.engine with state := .busy step .placed stopPending }
        leases := s.leases.set 0 { a with
          spent := min (a.spent + n) 4294967295
          admittedBeats := min (a.admittedBeats + n) 4294967295
          outstanding := a.outstanding + 1 }
        gQueue := s.gQueue ++
          [{ lease := 0, origin := .engine, direction := access.1, address := access.2.1, length := n, data := access.2.2.2 }] })

/-- A re-examination trigger: one is handed to each port unit, a WAITING engine request becomes PRESENTED, every PAUSED release RUNNING,
nothing else. A port unit takes triggers handed to it in claims of their own before a claim that reads the port heads, all but
those still delayed then: a BLOCKED head becomes EXAMINING with its timer and examined lease kept, an IDLE or EXAMINING head
stands, and nothing else changes. The number on the way and the list of delays are entry 7. -/
def Obligations.TriggerReachesEveryWaiter : Prop :=
  ∀ s : State,
    handTrigger s = { s with
      ports := (handTrigger s).ports, releases := (handTrigger s).releases, engine := (handTrigger s).engine } ∧
    (∀ p : PortId, (handTrigger s).port p = { s.port p with triggers := (s.port p).triggers + 1 }) ∧
    (∀ l : LeaseId, (handTrigger s).release l = if s.release l = .paused then .running else s.release l) ∧
    (handTrigger s).engine = { s.engine with state :=
      match s.engine.state with
      | .busy step .waiting stopPending => .busy step .presented stopPending
      | e => e } ∧
    takeTriggers s = { s with ports := (takeTriggers s).ports, delayed := s.delayed.tail } ∧
    ∀ p : PortId,
      let still := (s.delayed.headD []).count p
      (takeTriggers s).port p = { s.port p with
        triggers := min still (s.port p).triggers
        head := if still < (s.port p).triggers ∧ (s.port p).head = .blocked then .examining else (s.port p).head }

/-! ### The memory port -/

/-- ISSUE with the link LINK_UP, a FREE tag and an entry: the entry is the head of G or of S by the arbiter's cases, the tag is the
lowest FREE one, the request goes out under it, and one trigger is handed. In any other state nothing changes. -/
def Obligations.IssueTakesArbitersChoice : Prop :=
  (∀ (s : State) (k : TagId) (q : QueueName) (e : DispatchEntry) (rest : List DispatchEntry),
    s.link = .up → s.tag k = .free → (∀ j : TagId, j.val < k.val → s.tag j ≠ .free) →
    (q = .g ↔ s.gQueue ≠ [] ∧ (s.sQueue = [] ∨ s.gRun < 8)) → s.queue q = e :: rest →
    let out := { s with
      gQueue := if q = .g then rest else s.gQueue
      sQueue := if q = .s then rest else s.sQueue
      gRun := if q = .g then min (s.gRun + 1) 8 else 0
      tags := s.tags.set k.val (.issued
        { lease := e.lease, origin := e.origin, direction := e.direction, length := e.length, muted := false, timer := 0 })
      engine := { s.engine with state :=
        match e.origin, s.engine.state with
        | .engine, .busy step .placed stopPending => .busy step .issued stopPending
        | _, x => x }
      memoryOut := s.memoryOut ++ [.request k e.direction e.address e.length e.data] }
    exec .issue s = .next (handTrigger out)) ∧
  (∀ s : State, s.link = .down ∨ (∀ k : TagId, s.tag k ≠ .free) ∨ s.gQueue = [] ∧ s.sQueue = [] → exec .issue s = .next s)

/-- A response on an ISSUED tag of a client: DONE with the read data, or MEMORY_ERROR with the fault counted and FAULT raised; nothing is
sent for a muted tag; the tag becomes FREE and outstanding falls, with drain completion at 0 (timer count 0, FREED raised); ATTENTION
is set when the lease joins the attention set. Beats that the memory side left out are free values (entry 4). -/
def Obligations.ClientTagAnswered : Prop :=
  ∀ (s : State) (k : TagId) (f : IssuedTag) (p : PortId) (id : Byte) (status : MemoryStatus) (data : List Beat),
    s.link = .up → s.tag k = .issued f → f.origin = .client p id →
    let a := s.lease f.lease
    let after := match status with
      | .ok => a.fallen
      | .error => a.faulted.fallen
    let joins := a.reasons = 0 ∧ after.reasons ≠ 0
    ∃ t : State, exec (.memoryResponse k status data) s = .next t ∧
      t = { s with
        leases := s.leases.set f.lease.val after
        timers := if a.state = .draining ∧ a.outstanding = 1 then
            s.timers.set f.lease.val { s.timer f.lease with count := 0, running := false }
          else s.timers
        tags := s.tags.set k.val .free
        attention := if joins then s.attention ||| 1#64 <<< f.lease.val else s.attention
        intStatus := if joins then s.intStatus ||| 0b000001#6 else s.intStatus
        sent := t.sent
        freeIndex := t.freeIndex } ∧
      (f.muted = true → t.sent = s.sent) ∧
      (f.muted = false → status = .error →
        t.sent = s.sent ++ [{ port := p, clientId := id, status := .memoryError, data := [] }]) ∧
      (f.muted = false → status = .ok → ∃ beats : List Beat,
        t.sent = s.sent ++ [{ port := p, clientId := id, status := .done, data := beats }] ∧
        (f.direction = .write → beats = []) ∧
        (f.direction = .read → beats.length = f.length ∧ (data.length = f.length → beats = data)))

/-- A late response frees its ORPHANED tag and is discarded; a stray response, on a FREE tag or in LINK_DOWN, is discarded and STRAY is
set; nothing else changes. -/
def Obligations.LateAndStrayResponses : Prop :=
  ∀ (s : State) (k : TagId) (status : MemoryStatus) (data : List Beat),
    (s.link = .up → s.tag k = .orphaned →
      exec (.memoryResponse k status data) s = .next { s with tags := s.tags.set k.val .free }) ∧
    (s.link = .up → s.tag k = .free →
      exec (.memoryResponse k status data) s = .next { s with intStatus := s.intStatus ||| 0b010000#6 }) ∧
    (s.link = .down →
      exec (.memoryResponse k status data) s = .next { s with intStatus := s.intStatus ||| 0b010000#6 })

/-- The snapshot write answered OK moves the engine to the completion step; the completion write answered OK advances the complete
index, sets COMMAND by the completion mode, and the engine stops, fetches the next command or goes IDLE. -/
def Obligations.EngineWritesAnswered : Prop :=
  ∀ (s : State) (k : TagId) (f : IssuedTag) (data : List Beat) (stopPending : Bool),
    s.link = .up → s.tag k = .issued f → f.origin = .engine → f.lease = 0 → f.direction = .write →
    (s.lease 0).state = .opened → 0 < (s.lease 0).outstanding →
    (∀ command address beats, s.engine.state = .busy (.snapshot command address beats) .issued stopPending →
      exec (.memoryResponse k .ok data) s =
        .next ((fetchEnded s k).setEngineState (.busy (.completion command) .presented stopPending))) ∧
    (∀ command, s.engine.state = .busy (.completion command) .issued stopPending →
      s.engine.fetch < s.engine.ringSize →
      let done : Engine := { s.engine with complete := (s.engine.complete + 1) % s.engine.ringSize }
      let caughtUp := s.engine.submit = s.engine.fetch
      exec (.memoryResponse k .ok data) s = .next { fetchEnded s k with
        engine := { done with state :=
          if stopPending then .stopped else if caughtUp then .idle else .busy .fetch .presented false }
        intStatus :=
          if s.engine.completionMode = .each ∨ stopPending = false ∧ caughtUp then s.intStatus ||| 0b000010#6
          else s.intStatus })

/-- A response ERROR on the engine's tag halts the engine: fault record, fetch index back, HALTED, HALT set; the fault is counted on the
tag's lease and its outstanding falls. -/
def Obligations.EngineErrorHalts : Prop :=
  ∀ (s : State) (k : TagId) (f : IssuedTag) (data : List Beat) (step : EngineStep) (phase : RequestPhase) (stopPending : Bool),
    s.link = .up → s.tag k = .issued f → f.origin = .engine → f.lease = 0 → (s.lease 0).state = .opened →
    (s.lease 0).notify = 0 → 0 < (s.lease 0).outstanding → s.engine.state = .busy step phase stopPending →
    exec (.memoryResponse k .error data) s = .next { s with
      leases := s.leases.set 0 { s.lease 0 with
        faultCount := min ((s.lease 0).faultCount + 1) 4294967295
        outstanding := (s.lease 0).outstanding - 1 }
      tags := s.tags.set k.val .free
      engine := { s.engine with
        state := .halted
        fetch := s.engine.complete
        fault :=
          { slot := s.engine.complete
            step := match step with | .fetch => .fetch | .snapshot _ _ _ => .snapshot | .completion _ => .completion
            cause := .memoryError } }
      intStatus := s.intStatus ||| 0b000100#6 }

/-- The ready level and the link: a change from deasserted to asserted makes the link LINK_UP, a level already asserted changes
nothing, its fall leaves the link; a memory port reset takes it down, the other resets while powered keep it; in LINK_DOWN nothing is
issued; LINK reads it. -/
def Obligations.ReadyLevelAndLinkState : Prop :=
  State.reset.link = .down ∧
  ∀ s : State,
    (s.readyLevel = false → exec .readySignal s = .next { s with readyLevel := true, link := .up }) ∧
    (s.readyLevel = true → exec .readySignal s = .next s) ∧
    exec .readyLevelDeasserted s = .next { s with readyLevel := false } ∧
    (∀ t : State, exec .memoryPortReset s = .next t ∨ exec .memorySideReset s = .next t →
      t.link = .down ∧ t.readyLevel = s.readyLevel) ∧
    (∀ t : State, exec .softReset s = .next t ∨ (∃ p, exec (.clientPortReset p) s = .next t) ∨
        (∃ mask, exec (.portReset mask) s = .next t) → t.link = s.link) ∧
    (s.link = .down → exec .issue s = .next s) ∧
    windowRead s 0x078 = (match s.link with | .down => 0 | .up => 1)

/-! ### The command ring -/

/-- A response OK on the engine's fetch with a record of a known code is the row of that code with the record's other bytes, with a record
of a code from 12 the row UNKNOWN_COMMAND_CODE; while no fetch stands, a row of the ring changes nothing (DEDUCED, entry 6). -/
def Obligations.FetchAnswerRunsCommandRow : Prop :=
  (∀ (s : State) (t : TagId) (f : IssuedTag) (stopPending : Bool) (code : Fin 12) (body : RecordBody),
    FetchStands s t f stopPending → f.direction = .read → f.length = 1 →
    exec (.memoryResponse t .ok [commandRecord (BitVec.ofNat 8 code.val) body]) s = exec (ringRow code body) s) ∧
  (∀ (s : State) (t : TagId) (f : IssuedTag) (stopPending : Bool) (code : Byte) (body : RecordBody),
    FetchStands s t f stopPending → f.direction = .read → f.length = 1 → 12 ≤ code.toNat →
    exec (.memoryResponse t .ok [commandRecord code body]) s = exec (.unknownCommandCode code body) s) ∧
  (∀ (s : State) (code : Fin 12) (other : Byte) (body : RecordBody),
    s.link = .down ∨ (∀ stopPending, s.engine.state ≠ .busy .fetch .issued stopPending) →
    exec (ringRow code body) s = .next s ∧ exec (.unknownCommandCode other body) s = .next s)

/-- The checks every record of a known code passes first: byte 31, the reserved bits of its code (those that Table 11-3 does not mark as
read by it), the lease id field; each failure is BAD_PARAM with result 0 and no other change. A refused command of any kind changes
nothing but the engine's step. -/
def Obligations.RefusedRecordChangesNothing : Prop :=
  ∀ (code : Fin 12) (body : RecordBody),
    let c := code.val
    let r := commandRecord (BitVec.ofNat 8 c) body
    let reads (i : Nat) : Prop :=
      i < 8 ∨ 16 ≤ i ∧ i < 32 ∨ c ≠ 0 ∧ c ≠ 8 ∧ c ≠ 11 ∧ 8 ≤ i ∧ i < 16 ∨
      c = 1 ∧ 32 ≤ i ∧ i < 224 ∨
      c = 2 ∧ (48 ≤ i ∧ i < 56 ∨ 64 ≤ i ∧ i < 96 ∨ 112 ≤ i ∧ i < 160) ∨
      c = 3 ∧ 96 ≤ i ∧ i < 112 ∨
      (c = 7 ∨ c = 8) ∧ 32 ≤ i ∧ i < 48 ∨
      c = 9 ∧ 64 ≤ i ∧ i < 104 ∨
      c = 10 ∧ 60 ≤ i ∧ i < 64 ∨
      c = 11 ∧ 128 ≤ i ∧ i < 160
    let refused := r.extractLsb' 248 8 ≠ 0 ∨ (∃ i : Fin 256, r.getLsbD i.val = true ∧ ¬ reads i.val) ∨
      c ≠ 0 ∧ c ≠ 8 ∧ c ≠ 11 ∧ 64 ≤ (r.extractLsb' 8 8).toNat ∧ ¬ (c = 1 ∧ r.extractLsb' 8 8 = 255)
    recordCode r = BitVec.ofNat 8 c ∧ recordSequence r = r.extractLsb' 16 16 ∧
    (recordRefusal r = none ↔ ¬ refused) ∧
    (recordRefusal r = none → c ≠ 0 → c ≠ 8 → c ≠ 11 → r.extractLsb' 8 8 ≠ 255 →
      (recordLease r).val = (r.extractLsb' 8 8).toNat) ∧
    ∀ (s : State) (t : TagId) (f : IssuedTag) (stopPending : Bool), FetchStands s t f stopPending →
      (refused → exec (ringRow code body) s = .next (commandTaken (fetchEnded s t) r .badParam 0 stopPending)) ∧
      ∃ (u : State) (command : InHand), exec (ringRow code body) s = .next u ∧
        command.code = BitVec.ofNat 8 c ∧ command.sequence = recordSequence r ∧
        (u.engine.state = .busy (.completion command) .presented stopPending ∨
          code = 9 ∧ command.status = .ok ∧
            ∃ address beats, u.engine.state = .busy (.snapshot command address beats) .presented stopPending) ∧
        (command.status ≠ .ok →
          u = commandTaken (fetchEnded s t) r command.status command.result.toNat stopPending ∧
          (command.result ≠ 0 → command.status = .overCapacity))

/-- NOP with no reserved field set completes OK with result 0 and no effect; an unknown code completes BAD_COMMAND, or BAD_PARAM when the
done-marker byte is set, which is checked first. -/
def Obligations.NopAndUnknownCodes : Prop :=
  ∀ (s : State) (t : TagId) (f : IssuedTag) (stopPending : Bool) (body : RecordBody),
    FetchStands s t f stopPending →
    (recordRefusal (commandRecord 0 body) = none →
      exec (.nop body) s = .next (commandTaken (fetchEnded s t) (commandRecord 0 body) .ok 0 stopPending)) ∧
    (exec (.nop 0) s = .next (commandTaken (fetchEnded s t) 0 .ok 0 stopPending)) ∧
    (∀ code : Byte, 12 ≤ code.toNat →
      exec (.unknownCommandCode code body) s = .next (commandTaken (fetchEnded s t) (commandRecord code body)
        (if byteAt (commandRecord code body) 31 ≠ 0 then .badParam else .badCommand) 0 stopPending))

/-- OPEN_LEASE past the common checks: the lease chosen or the refusal, then the parameters (read at the positions of Table 11-3), then
the capacity check, then the changes. -/
def Obligations.OpenLeaseChoosesAndOpens : Prop :=
  (∀ r : Beat, openParams r =
    { classCode := r.extractLsb' 32 8
      k := (r.extractLsb' 40 8).toNat
      holdLimit := (r.extractLsb' 48 8).toNat
      overdraw := r.getLsbD 56
      fencePresent := r.getLsbD 57
      fenceAccess := r.extractLsb' 58 2
      notify := r.extractLsb' 60 4
      budget := (r.extractLsb' 64 16).toNat
      carryLimit := (r.extractLsb' 80 16).toNat
      term := (r.extractLsb' 96 16).toNat
      reviewSpan := (r.extractLsb' 112 8).toNat
      curbLength := (r.extractLsb' 120 8).toNat
      watchThreshold := (r.extractLsb' 128 32).toNat
      fenceBase := (r.extractLsb' 160 32).toNat
      fenceLimit := (r.extractLsb' 192 32).toNat }) ∧
  ∀ (s : State) (t : TagId) (f : IssuedTag) (stopPending : Bool) (body : RecordBody),
    FetchStands s t f stopPending →
    let r := commandRecord 1 body
    let p := openParams r
    let s0 := fetchEnded s t
    let refused (status : CommandStatus) := exec (.openLease body) s = .next (commandTaken s0 r status 0 stopPending)
    recordRefusal r = none →
    (byteAt r 1 = 0 → refused .reservedLease) ∧
    (byteAt r 1 = 255 → (∀ l : LeaseId, l ≠ 0 → ¬ ((s.lease l).state = .free ∧ (s.lease l).reasons = 0)) → refused .noLease) ∧
    (∀ l : LeaseId, l ≠ 0 → (byteAt r 1).toNat = l.val →
      ((s.lease l).state = .draining → refused .draining) ∧
      ((s.lease l).state = .opened ∨ (s.lease l).state = .suspended ∨ (s.lease l).state = .free ∧ (s.lease l).reasons ≠ 0 →
        refused .inUse)) ∧
    (∀ l : LeaseId, l ≠ 0 → (s.lease l).state = .free → (s.lease l).reasons = 0 →
      ((byteAt r 1).toNat = l.val ∨
        byteAt r 1 = 255 ∧ ∀ j : LeaseId, j ≠ 0 → j < l → ¬ ((s.lease j).state = .free ∧ (s.lease j).reasons = 0)) →
      (checkOpen p = none → refused .badParam) ∧
      (∀ c fence, checkOpen p = some (c, fence) →
        let rate := p.budget * 2 ^ (12 - p.k)
        if c = .guaranteed ∧ s.capacity < s.committed + rate then refused .overCapacity
        else exec (.openLease body) s = .next (commandTaken
          { s0 with
            leases := s0.leases.set l.val { s.lease l with
              state := .opened, drainCause := none, cls := c, k := p.k, budget := p.budget, carryLimit := p.carryLimit,
              credit := p.budget, spent := 0, term := p.term, periodsRemaining := p.term, holdLimit := p.holdLimit,
              overdrawPermitted := p.overdraw, fence := fence, watchThreshold := p.watchThreshold, reviewSpan := p.reviewSpan,
              curbLength := p.curbLength, regime := .watch, reviewAccumulator := 0, reviewCounter := p.reviewSpan,
              curbRemaining := 0, admittedBeats := 0, overdrawBeats := 0, heldTotal := 0, refusedCount := 0, faultCount := 0,
              notify := p.notify }
            timers := s.timers.set l.val { count := 0, running := true, raised := 0 }
            committed := if c = .guaranteed then s.committed + rate else s.committed }
          r .ok l.val stopPending)))

/-- The parameter ranges of OPEN_LEASE (Table 10-3). -/
def Obligations.OpenLeaseParameterRanges : Prop :=
  ∀ (p : OpenParams) (c : LeaseClass) (fence : Option Fence),
    checkOpen p = some (c, fence) ↔
      p.classCode = BitVec.ofNat 8 (match c with | .guaranteed => 0 | .capped => 1 | .shared => 2) ∧
      p.k ≤ 12 ∧ 1 ≤ p.budget ∧ p.holdLimit ≤ 32 ∧
      (match c with
       | .guaranteed => p.carryLimit ≤ p.budget ∧ p.watchThreshold = 0 ∧ p.reviewSpan = 0 ∧ p.curbLength = 0
       | .capped => p.carryLimit ≤ p.budget ∧ p.overdraw = false ∧ p.watchThreshold = 0 ∧ p.reviewSpan = 0 ∧ p.curbLength = 0
       | .shared => p.carryLimit = 0 ∧ p.overdraw = false ∧ 1 ≤ p.watchThreshold ∧ 1 ≤ p.reviewSpan ∧ p.reviewSpan ≤ 63 ∧
          1 ≤ p.curbLength ∧ p.curbLength ≤ 63) ∧
      (match fence with
       | none => p.fencePresent = false ∧ p.fenceBase = 0 ∧ p.fenceLimit = 0 ∧ p.fenceAccess = 0
       | some w => p.fencePresent = true ∧ w.base = p.fenceBase ∧ w.limit = p.fenceLimit ∧ p.fenceBase ≤ p.fenceLimit ∧
          p.fenceLimit ≤ 268435455 ∧ p.fenceAccess = BitVec.ofNat 2 w.access.code)

/-- RESIZE_LEASE past the common checks: state, ranges, capacity, and then every change it makes, with the committed sum as result; its
parameters are read at the positions of Table 11-3. -/
def Obligations.ResizeLeaseChecksAndChanges : Prop :=
  (∀ r : Beat, resizeParams r =
    { holdLimit := (r.extractLsb' 48 8).toNat
      budget := (r.extractLsb' 64 16).toNat
      carryLimit := (r.extractLsb' 80 16).toNat
      reviewSpan := (r.extractLsb' 112 8).toNat
      curbLength := (r.extractLsb' 120 8).toNat
      watchThreshold := (r.extractLsb' 128 32).toNat }) ∧
  ∀ (s : State) (t : TagId) (f : IssuedTag) (stopPending : Bool) (body : RecordBody),
    FetchStands s t f stopPending →
    let r := commandRecord 2 body
    let p := resizeParams r
    let l := recordLease r
    let s0 := fetchEnded s t
    let a := s0.lease l
    let ranges := 1 ≤ p.budget ∧ p.holdLimit ≤ 32 ∧ (l = 0 → p.holdLimit = 0) ∧
      (a.cls = .shared → p.carryLimit = 0 ∧ 1 ≤ p.watchThreshold ∧ 1 ≤ p.reviewSpan ∧ p.reviewSpan ≤ 63 ∧ 1 ≤ p.curbLength ∧
        p.curbLength ≤ 63) ∧
      (a.cls ≠ .shared → p.watchThreshold = 0 ∧ p.reviewSpan = 0 ∧ p.curbLength = 0)
    let sum := if a.cls = .guaranteed then s.committed + p.budget * 2 ^ (12 - a.k) - a.budget * 2 ^ (12 - a.k) else s.committed
    recordRefusal r = none →
    if a.state = .free ∨ a.state = .draining then
      exec (.resizeLease body) s = .next (commandTaken s0 r .notOpen 0 stopPending)
    else if ¬ ranges then exec (.resizeLease body) s = .next (commandTaken s0 r .badParam 0 stopPending)
    else if a.cls = .guaranteed ∧ a.budget < p.budget ∧ s.capacity < sum then
      exec (.resizeLease body) s = .next (commandTaken s0 r .overCapacity s.committed stopPending)
    else
      let resized := (s0.setCommitted sum).setLease l { a with
        budget := p.budget
        carryLimit := min p.carryLimit p.budget
        credit := if a.budget < p.budget then min (a.credit + (p.budget - a.budget)) 4294967295 else a.credit
        holdLimit := p.holdLimit
        watchThreshold := if a.cls = .shared then p.watchThreshold else a.watchThreshold
        reviewSpan := if a.cls = .shared then p.reviewSpan else a.reviewSpan
        curbLength := if a.cls = .shared then p.curbLength else a.curbLength
        reviewCounter := if a.cls = .shared ∧ a.regime = .watch then min a.reviewCounter p.reviewSpan else a.reviewCounter
        curbRemaining := if a.cls = .shared ∧ a.regime = .curb then min a.curbRemaining p.curbLength else a.curbRemaining }
      let released := if a.budget < p.budget ∧ a.state = .opened ∧ s.holdQueue l ≠ [] then resized.setRelease l .running else resized
      exec (.resizeLease body) s = .next (commandTaken
        (if a.budget < p.budget ∨ a.holdLimit < p.holdLimit then handTrigger released else released) r .ok sum stopPending)

/-- RENEW_LEASE past the common checks. -/
def Obligations.RenewLeaseRaisesPeriods : Prop :=
  ∀ (s : State) (t : TagId) (f : IssuedTag) (stopPending : Bool) (body : RecordBody),
    FetchStands s t f stopPending →
    let r := commandRecord 3 body
    let l := recordLease r
    let s0 := fetchEnded s t
    let a := s0.lease l
    let n := (halfAt r 12).toNat
    recordRefusal r = none →
    exec (.renewLease body) s = .next
      (if a.state = .free then commandTaken s0 r .notOpen 0 stopPending
       else if a.state = .draining then commandTaken s0 r .tooLate 0 stopPending
       else if a.term = 0 ∨ n = 0 then commandTaken s0 r .badParam 0 stopPending
       else commandTaken (s0.setLease l { a with periodsRemaining := min (a.periodsRemaining + n) 65535 }) r .ok
        (min (a.periodsRemaining + n) 65535) stopPending)

/-- SUSPEND_LEASE and RESUME_LEASE past the common checks. -/
def Obligations.SuspendAndResumeLease : Prop :=
  (∀ (s : State) (t : TagId) (f : IssuedTag) (stopPending : Bool) (body : RecordBody),
    FetchStands s t f stopPending →
    let r := commandRecord 4 body
    let l := recordLease r
    let s0 := fetchEnded s t
    recordRefusal r = none →
    exec (.suspendLease body) s = .next
      (if l = 0 then commandTaken s0 r .reservedLease 0 stopPending
       else match (s.lease l).state with
        | .opened => commandTaken (s0.setLease l { s.lease l with state := .suspended }) r .ok 0 stopPending
        | .suspended => commandTaken s0 r .ok 0 stopPending
        | .free => commandTaken s0 r .notOpen 0 stopPending
        | .draining => commandTaken s0 r .notOpen 0 stopPending)) ∧
  (∀ (s : State) (t : TagId) (f : IssuedTag) (stopPending : Bool) (body : RecordBody),
    FetchStands s t f stopPending →
    let r := commandRecord 5 body
    let l := recordLease r
    let s0 := fetchEnded s t
    recordRefusal r = none →
    exec (.resumeLease body) s = .next
      (match (s.lease l).state with
        | .suspended =>
          let opened := s0.setLease l { s.lease l with state := .opened }
          commandTaken (handTrigger (if s.holdQueue l ≠ [] then opened.setRelease l .running else opened)) r .ok 0 stopPending
        | .opened => commandTaken s0 r .ok 0 stopPending
        | .free => commandTaken s0 r .notOpen 0 stopPending
        | .draining => commandTaken s0 r .notOpen 0 stopPending))

/-- RETIRE_LEASE past the common checks: drain start with cause RETIRED, and outstanding as it stood as the result. -/
def Obligations.RetireLeaseTakesDrainStart : Prop :=
  ∀ (s : State) (t : TagId) (f : IssuedTag) (stopPending : Bool) (body : RecordBody),
    FetchStands s t f stopPending →
    let r := commandRecord 6 body
    let l := recordLease r
    let s0 := fetchEnded s t
    recordRefusal r = none →
    exec (.retireLease body) s = .next
      (if l = 0 then commandTaken s0 r .reservedLease 0 stopPending
       else if (s.lease l).state = .opened ∨ (s.lease l).state = .suspended then
        commandTaken (drainStart l .retired s0) r .ok (s.lease l).outstanding stopPending
       else commandTaken s0 r .notOpen 0 stopPending)

/-- Drain start on an OPEN or SUSPENDED lease: DRAINING with its cause, or FREE at once when outstanding is 0; slots unbound, held
requests refused in join order with their slots freed, the rate of a GUARANTEED lease released, the timer stopped and raised
period ends discarded, EXPIRED and, at outstanding 0, FREED raised, with ATTENTION when the lease joins the attention set; one trigger
when a slot or a held request went (a port takes it later, entry 7); everything else as it stood. -/
def Obligations.DrainStartChanges : Prop :=
  ∀ (s : State) (l : LeaseId) (cause : DrainCause),
    ((s.lease l).state = .opened ∨ (s.lease l).state = .suspended) → (s.lease l).heldCount = (s.holdQueue l).length →
    let a := s.lease l
    let u := drainStart l cause s
    let held := (s.holdQueue l).length
    let expired := if cause = .expired ∧ a.notify &&& 0b0001#4 ≠ 0 then a.reasons ||| 0b0001#4 else a.reasons
    let draining := { a with
      state := .draining, drainCause := some cause, boundSlots := 0, heldCount := 0
      refusedCount := min (a.refusedCount + held) 4294967295, reasons := expired }
    let after := if a.outstanding = 0 then draining.drained else draining
    let joins := a.reasons = 0 ∧ after.reasons ≠ 0
    let changed := (∃ p t, s.slot p t = some l) ∨ s.holdQueue l ≠ []
    u = { s with
      leases := s.leases.set l.val after
      timers := s.timers.set l.val
        { s.timer l with count := if a.outstanding = 0 then 0 else (s.timer l).count, running := false, raised := 0 }
      committed := if a.cls = .guaranteed then s.committed - a.budget * 2 ^ (12 - a.k) else s.committed
      ports := u.ports
      streams := u.streams
      holdQueues := s.holdQueues.set l.val []
      releases := u.releases
      poolFree := s.poolFree + held
      engine := u.engine
      attention := if joins then s.attention ||| 1#64 <<< l.val else s.attention
      intStatus := if joins then s.intStatus ||| 0b000001#6 else s.intStatus
      sent := s.sent ++ retiredResponses (s.holdQueue l) } ∧
    (∀ p t, u.slot p t = if s.slot p t = some l then none else s.slot p t) ∧
    u.release l = .idle ∧
    (changed → (∀ p, u.port p = { s.port p with triggers := (s.port p).triggers + 1 }) ∧
      (∀ j, j ≠ l → u.release j = if s.release j = .paused then .running else s.release j) ∧
      u.engine = { s.engine with state := match s.engine.state with
        | .busy step .waiting stopPending => .busy step .presented stopPending
        | e => e }) ∧
    (¬ changed → u.ports = s.ports ∧ (∀ j, j ≠ l → u.release j = s.release j) ∧ u.engine = s.engine)

/-- BIND_STREAM and UNBIND_STREAM past the common checks: the range of port and tag, then the lease, then the slot, both bound-slot
counts and the trigger. -/
def Obligations.BindAndUnbindStream : Prop :=
  (∀ (s : State) (t : TagId) (f : IssuedTag) (stopPending : Bool) (body : RecordBody),
    FetchStands s t f stopPending →
    let r := commandRecord 7 body
    let l := recordLease r
    let s0 := fetchEnded s t
    recordRefusal r = none →
    (8 ≤ (byteAt r 4).toNat ∨ 16 ≤ (byteAt r 5).toNat →
      exec (.bindStream body) s = .next (commandTaken s0 r .badParam 0 stopPending)) ∧
    (∀ (p : PortId) (g : StreamTag), (byteAt r 4).toNat = p.val → (byteAt r 5).toNat = g.val →
      (l = 0 → exec (.bindStream body) s = .next (commandTaken s0 r .reservedLease 0 stopPending)) ∧
      (l ≠ 0 → (s.lease l).state = .free ∨ (s.lease l).state = .draining →
        exec (.bindStream body) s = .next (commandTaken s0 r .notOpen 0 stopPending)) ∧
      (l ≠ 0 → (s.lease l).state = .opened ∨ (s.lease l).state = .suspended →
        (s.slot p g = some l → exec (.bindStream body) s = .next (commandTaken s0 r .ok 0 stopPending)) ∧
        (s.slot p g = none → exec (.bindStream body) s = .next (commandTaken (handTrigger
          ((s0.setLease l { s.lease l with boundSlots := (s.lease l).boundSlots + 1 }).setSlot p g (some l))) r .ok 0 stopPending)) ∧
        (∀ j : LeaseId, j ≠ 0 → j ≠ l → s.slot p g = some j →
          exec (.bindStream body) s = .next (commandTaken (handTrigger
            (((s0.setLease j { s.lease j with boundSlots := (s.lease j).boundSlots - 1 }).setLease l
              { s.lease l with boundSlots := (s.lease l).boundSlots + 1 }).setSlot p g (some l))) r .ok 0 stopPending))))) ∧
  (∀ (s : State) (t : TagId) (f : IssuedTag) (stopPending : Bool) (body : RecordBody),
    FetchStands s t f stopPending →
    let r := commandRecord 8 body
    let s0 := fetchEnded s t
    recordRefusal r = none →
    (8 ≤ (byteAt r 4).toNat ∨ 16 ≤ (byteAt r 5).toNat →
      exec (.unbindStream body) s = .next (commandTaken s0 r .badParam 0 stopPending)) ∧
    (∀ (p : PortId) (g : StreamTag), (byteAt r 4).toNat = p.val → (byteAt r 5).toNat = g.val →
      (s.slot p g = none → exec (.unbindStream body) s = .next (commandTaken s0 r .ok 255 stopPending)) ∧
      (∀ j : LeaseId, j ≠ 0 → s.slot p g = some j →
        exec (.unbindStream body) s = .next (commandTaken (handTrigger
          ((s0.setLease j { s.lease j with boundSlots := (s.lease j).boundSlots - 1 }).setSlot p g none)) r .ok j.val
            stopPending))))

/-- QUERY_LEASE past the common checks: BAD_PARAM for an address that is misaligned or leaves its block; otherwise the record and its
period position are copied for the snapshot write, and nothing else changes. And the snapshot itself: four beats with every field of
Table 11-4 at its place and every other byte zero. That lease 0's own copy counts the fetch just answered no more is DEDUCED
(entry 10). -/
def Obligations.QueryLeaseCopiesRecord : Prop :=
  (∀ (s : State) (t : TagId) (f : IssuedTag) (stopPending : Bool) (body : RecordBody),
    FetchStands s t f stopPending →
    let r := commandRecord 9 body
    let address : Address := r.extractLsb' 64 40
    let s0 := fetchEnded s t
    let l := recordLease r
    recordRefusal r = none →
    exec (.queryLease body) s = .next
      (if address.toNat % 32 = 0 ∧ address.toNat % 4096 ≤ 3968 then
        { s0 with engine := { s0.engine with
          fetch := (s.engine.fetch + 1) % s.engine.ringSize
          state := .busy (.snapshot { code := 9, sequence := recordSequence r, status := .ok, result := 0 } address
            (snapshotBeats l (s0.lease l) (s.timer l).count)) .presented stopPending } }
       else commandTaken s0 r .badParam 0 stopPending)) ∧
  (∀ (l : LeaseId) (a : Lease) (position : Nat), ∃ b0 b1 b2 : Beat,
    snapshotBeats l a position = [b0, b1, b2, 0] ∧
    let field (b : Beat) (offset bytes : Nat) : Nat := (b.extractLsb' (8 * offset) (8 * bytes)).toNat
    (field b0 0 1 = l.val ∧
      field b0 1 1 = (match a.state with | .free => 0 | .opened => 1 | .suspended => 2 | .draining => 3) ∧
      field b0 2 1 = (match a.drainCause with | none => 0 | some .retired => 1 | some .expired => 2) ∧
      field b0 3 1 = (match a.cls with | .guaranteed => 0 | .capped => 1 | .shared => 2) ∧
      field b0 4 1 = a.k % 256 ∧ field b0 5 1 = a.holdLimit % 256 ∧ field b0 6 1 = a.heldCount % 256 ∧
      b0.getLsbD 56 = a.overdrawPermitted ∧ b0.getLsbD 57 = a.fence.isSome ∧
      (b0.extractLsb' 58 2).toNat = (match a.fence with
        | none => 0
        | some w => match w.access with | .read => 1 | .write => 2 | .readWrite => 3) ∧
      b0.extractLsb' 60 4 = a.notify ∧
      field b0 8 2 = a.budget % 65536 ∧ field b0 10 2 = a.carryLimit % 65536 ∧ field b0 12 2 = a.term % 65536 ∧
      field b0 14 2 = a.periodsRemaining % 65536 ∧ field b0 16 4 = a.credit % 4294967296 ∧
      field b0 20 4 = a.spent % 4294967296 ∧ field b0 24 4 = position % 4294967296 ∧
      field b0 28 1 = a.outstanding % 256 ∧ field b0 29 1 = a.boundSlots % 256 ∧ b0.extractLsb' 240 4 = 0 ∧
      b0.extractLsb' 244 4 = a.reasons ∧ field b0 31 1 = 0) ∧
    (field b1 0 1 = (match a.regime with | .watch => 0 | .curb => 1) ∧ field b1 1 1 = a.reviewCounter % 256 ∧
      field b1 2 1 = a.curbRemaining % 256 ∧ field b1 3 1 = a.reviewSpan % 256 ∧ field b1 4 1 = a.curbLength % 256 ∧
      field b1 5 3 = 0 ∧ field b1 8 4 = a.watchThreshold % 4294967296 ∧ field b1 12 4 = a.reviewAccumulator % 4294967296 ∧
      field b1 16 4 = (match a.fence with | none => 0 | some w => w.base % 4294967296) ∧
      field b1 20 4 = (match a.fence with | none => 0 | some w => w.limit % 4294967296) ∧ field b1 24 8 = 0) ∧
    (field b2 0 4 = a.admittedBeats % 4294967296 ∧ field b2 4 4 = a.overdrawBeats % 4294967296 ∧
      field b2 8 4 = a.heldTotal % 4294967296 ∧ field b2 12 4 = a.refusedCount % 4294967296 ∧
      field b2 16 4 = a.faultCount % 4294967296 ∧ field b2 20 12 = 0))

/-- ACK_ATTENTION past the common checks: the reasons of the mask leave the reason set, which is the result in bits 7:4; the lease leaves
the attention set when none is left; ATTENTION stands. -/
def Obligations.AckAttentionRemovesReasons : Prop :=
  ∀ (s : State) (t : TagId) (f : IssuedTag) (stopPending : Bool) (body : RecordBody),
    FetchStands s t f stopPending →
    let r := commandRecord 10 body
    let l := recordLease r
    let s0 := fetchEnded s t
    let left := (s.lease l).reasons &&& ~~~ r.extractLsb' 60 4
    recordRefusal r = none →
    ∃ u : State, exec (.ackAttention body) s = .next (commandTaken u r .ok (16 * left.toNat) stopPending) ∧
      u = { s0.setLease l { s0.lease l with reasons := left } with attention := u.attention } ∧
      (left ≠ 0 → u.attention = s.attention) ∧
      (left = 0 → ∀ j : LeaseId, u.attention.getLsbD j.val = (s.attention.getLsbD j.val && decide (j ≠ l)))

/-- SET_CAPACITY past the common checks: taken when the value is at least the committed sum, refused OVER_CAPACITY otherwise, with the
committed sum as the result either way. -/
def Obligations.SetCapacityAgainstCommittedSum : Prop :=
  ∀ (s : State) (t : TagId) (f : IssuedTag) (stopPending : Bool) (body : RecordBody),
    FetchStands s t f stopPending →
    let r := commandRecord 11 body
    let value := (wordAt r 16).toNat
    let s0 := fetchEnded s t
    recordRefusal r = none →
    exec (.setCapacity body) s = .next
      (if s.committed ≤ value then commandTaken { s0 with capacity := value } r .ok s.committed stopPending
       else commandTaken s0 r .overCapacity s.committed stopPending)

/-- The 32 bytes of a completion record. -/
def Obligations.CompletionRecordLayout : Prop :=
  ∀ c : InHand,
    byteAt (completionRecord c) 0 = c.code ∧ halfAt (completionRecord c) 2 = c.sequence ∧
    byteAt (completionRecord c) 4 = (match c.status with
      | .ok => 0 | .badCommand => 1 | .badParam => 2 | .reservedLease => 3 | .noLease => 4 | .inUse => 5 | .notOpen => 6
      | .draining => 7 | .tooLate => 8 | .overCapacity => 9) ∧ wordAt (completionRecord c) 8 = c.result ∧
    byteAt (completionRecord c) 31 = 1 ∧
    (∀ i : Nat, i = 1 ∨ 5 ≤ i ∧ i < 8 ∨ 12 ≤ i ∧ i < 31 → byteAt (completionRecord c) i = 0)

/-! ### Laws that every step keeps -/

/-- R178. -/
def Obligations.AttentionLawIsKept : Prop := ∀ s t : State, AttentionLaw s → step s = .next t → AttentionLaw t

/-- R5, R6. -/
def Obligations.CreditLawIsKept : Prop := ∀ s t : State, CreditLaw s → step s = .next t → CreditLaw t

/-- R83, R9. -/
def Obligations.StreamMapLawIsKept : Prop :=
  ∀ s t : State, StreamLaw s → BoundSlotLaw s → step s = .next t → StreamLaw t ∧ BoundSlotLaw t

/-- R107, R109, R110, with R83. -/
def Obligations.HoldLawIsKept : Prop := ∀ s t : State, HoldLaw s → StreamLaw s → step s = .next t → HoldLaw t

/-- R123. -/
def Obligations.OutstandingLawIsKept : Prop := ∀ s t : State, OutstandingLaw s → step s = .next t → OutstandingLaw t

/-- R58. -/
def Obligations.CommittedLawIsKept : Prop := ∀ s t : State, CommittedLaw s → step s = .next t → CommittedLaw t

/-- R21. -/
def Obligations.LeaseZeroLawIsKept : Prop := ∀ s t : State, LeaseZeroLaw s → step s = .next t → LeaseZeroLaw t

/-- R141, R142, R143. -/
def Obligations.EngineLawIsKept : Prop := ∀ s t : State, EngineLaw s → step s = .next t → EngineLaw t

/-- R140, R145, R146. -/
def Obligations.EngineRequestLawIsKept : Prop := ∀ s t : State, EngineRequestLaw s → step s = .next t → EngineRequestLaw t

/-- R67, R69, R70, R71. -/
def Obligations.PortLawIsKept : Prop := ∀ s t : State, PortLaw s → step s = .next t → PortLaw t

/-- R121, R125, R128, R137. -/
def Obligations.QueueAndLinkLawsAreKept : Prop :=
  ∀ s t : State, QueueLaw s → LinkLaw s → step s = .next t → QueueLaw t ∧ LinkLaw t

/-- Every law of the controller's state is kept by every step. -/
def Obligations.SafeStateIsKept : Prop := ∀ s t : State, SafeState s → step s = .next t → SafeState t
end

