-- ==== Sys2Proof/Laws/State.lean ====
section
/-!
SUPPORT. One lemma per field of `State` per named update of it, true by definition, so that no proof unfolds a record update.
-/

namespace Sys2Proof.Machine

variable (s : State)

/-! ### setLease -/

@[simp] theorem setLease_timers (l : LeaseId) (r : Lease) : (s.setLease l r).timers = s.timers := rfl
@[simp] theorem setLease_timebase (l : LeaseId) (r : Lease) : (s.setLease l r).timebase = s.timebase := rfl
@[simp] theorem setLease_capacity (l : LeaseId) (r : Lease) : (s.setLease l r).capacity = s.capacity := rfl
@[simp] theorem setLease_committed (l : LeaseId) (r : Lease) : (s.setLease l r).committed = s.committed := rfl
@[simp] theorem setLease_ports (l : LeaseId) (r : Lease) : (s.setLease l r).ports = s.ports := rfl
@[simp] theorem setLease_streams (l : LeaseId) (r : Lease) : (s.setLease l r).streams = s.streams := rfl
@[simp] theorem setLease_lastServed (l : LeaseId) (r : Lease) : (s.setLease l r).lastServed = s.lastServed := rfl
@[simp] theorem setLease_holdQueues (l : LeaseId) (r : Lease) : (s.setLease l r).holdQueues = s.holdQueues := rfl
@[simp] theorem setLease_releases (l : LeaseId) (r : Lease) : (s.setLease l r).releases = s.releases := rfl
@[simp] theorem setLease_poolFree (l : LeaseId) (r : Lease) : (s.setLease l r).poolFree = s.poolFree := rfl
@[simp] theorem setLease_gQueue (l : LeaseId) (r : Lease) : (s.setLease l r).gQueue = s.gQueue := rfl
@[simp] theorem setLease_sQueue (l : LeaseId) (r : Lease) : (s.setLease l r).sQueue = s.sQueue := rfl
@[simp] theorem setLease_gRun (l : LeaseId) (r : Lease) : (s.setLease l r).gRun = s.gRun := rfl
@[simp] theorem setLease_tags (l : LeaseId) (r : Lease) : (s.setLease l r).tags = s.tags := rfl
@[simp] theorem setLease_link (l : LeaseId) (r : Lease) : (s.setLease l r).link = s.link := rfl
@[simp] theorem setLease_readyLevel (l : LeaseId) (r : Lease) : (s.setLease l r).readyLevel = s.readyLevel := rfl
@[simp] theorem setLease_responseTimeout (l : LeaseId) (r : Lease) : (s.setLease l r).responseTimeout = s.responseTimeout := rfl
@[simp] theorem setLease_engine (l : LeaseId) (r : Lease) : (s.setLease l r).engine = s.engine := rfl
@[simp] theorem setLease_attention (l : LeaseId) (r : Lease) : (s.setLease l r).attention = s.attention := rfl
@[simp] theorem setLease_intStatus (l : LeaseId) (r : Lease) : (s.setLease l r).intStatus = s.intStatus := rfl
@[simp] theorem setLease_intEnable (l : LeaseId) (r : Lease) : (s.setLease l r).intEnable = s.intEnable := rfl
@[simp] theorem setLease_sent (l : LeaseId) (r : Lease) : (s.setLease l r).sent = s.sent := rfl
@[simp] theorem setLease_memoryOut (l : LeaseId) (r : Lease) : (s.setLease l r).memoryOut = s.memoryOut := rfl
@[simp] theorem setLease_freeIndex (l : LeaseId) (r : Lease) : (s.setLease l r).freeIndex = s.freeIndex := rfl
@[simp] theorem setLease_delayed (l : LeaseId) (r : Lease) : (s.setLease l r).delayed = s.delayed := rfl
@[simp] theorem setLease_pending (l : LeaseId) (r : Lease) : (s.setLease l r).pending = s.pending := rfl

/-! ### setTimer -/

@[simp] theorem setTimer_leases (l : LeaseId) (t : PeriodTimer) : (s.setTimer l t).leases = s.leases := rfl
@[simp] theorem setTimer_timebase (l : LeaseId) (t : PeriodTimer) : (s.setTimer l t).timebase = s.timebase := rfl
@[simp] theorem setTimer_capacity (l : LeaseId) (t : PeriodTimer) : (s.setTimer l t).capacity = s.capacity := rfl
@[simp] theorem setTimer_committed (l : LeaseId) (t : PeriodTimer) : (s.setTimer l t).committed = s.committed := rfl
@[simp] theorem setTimer_ports (l : LeaseId) (t : PeriodTimer) : (s.setTimer l t).ports = s.ports := rfl
@[simp] theorem setTimer_streams (l : LeaseId) (t : PeriodTimer) : (s.setTimer l t).streams = s.streams := rfl
@[simp] theorem setTimer_lastServed (l : LeaseId) (t : PeriodTimer) : (s.setTimer l t).lastServed = s.lastServed := rfl
@[simp] theorem setTimer_holdQueues (l : LeaseId) (t : PeriodTimer) : (s.setTimer l t).holdQueues = s.holdQueues := rfl
@[simp] theorem setTimer_releases (l : LeaseId) (t : PeriodTimer) : (s.setTimer l t).releases = s.releases := rfl
@[simp] theorem setTimer_poolFree (l : LeaseId) (t : PeriodTimer) : (s.setTimer l t).poolFree = s.poolFree := rfl
@[simp] theorem setTimer_gQueue (l : LeaseId) (t : PeriodTimer) : (s.setTimer l t).gQueue = s.gQueue := rfl
@[simp] theorem setTimer_sQueue (l : LeaseId) (t : PeriodTimer) : (s.setTimer l t).sQueue = s.sQueue := rfl
@[simp] theorem setTimer_gRun (l : LeaseId) (t : PeriodTimer) : (s.setTimer l t).gRun = s.gRun := rfl
@[simp] theorem setTimer_tags (l : LeaseId) (t : PeriodTimer) : (s.setTimer l t).tags = s.tags := rfl
@[simp] theorem setTimer_link (l : LeaseId) (t : PeriodTimer) : (s.setTimer l t).link = s.link := rfl
@[simp] theorem setTimer_readyLevel (l : LeaseId) (t : PeriodTimer) : (s.setTimer l t).readyLevel = s.readyLevel := rfl
@[simp] theorem setTimer_responseTimeout (l : LeaseId) (t : PeriodTimer) : (s.setTimer l t).responseTimeout = s.responseTimeout := rfl
@[simp] theorem setTimer_engine (l : LeaseId) (t : PeriodTimer) : (s.setTimer l t).engine = s.engine := rfl
@[simp] theorem setTimer_attention (l : LeaseId) (t : PeriodTimer) : (s.setTimer l t).attention = s.attention := rfl
@[simp] theorem setTimer_intStatus (l : LeaseId) (t : PeriodTimer) : (s.setTimer l t).intStatus = s.intStatus := rfl
@[simp] theorem setTimer_intEnable (l : LeaseId) (t : PeriodTimer) : (s.setTimer l t).intEnable = s.intEnable := rfl
@[simp] theorem setTimer_sent (l : LeaseId) (t : PeriodTimer) : (s.setTimer l t).sent = s.sent := rfl
@[simp] theorem setTimer_memoryOut (l : LeaseId) (t : PeriodTimer) : (s.setTimer l t).memoryOut = s.memoryOut := rfl
@[simp] theorem setTimer_freeIndex (l : LeaseId) (t : PeriodTimer) : (s.setTimer l t).freeIndex = s.freeIndex := rfl
@[simp] theorem setTimer_delayed (l : LeaseId) (t : PeriodTimer) : (s.setTimer l t).delayed = s.delayed := rfl
@[simp] theorem setTimer_pending (l : LeaseId) (t : PeriodTimer) : (s.setTimer l t).pending = s.pending := rfl

/-! ### setPort -/

@[simp] theorem setPort_leases (p : PortId) (u : Port) : (s.setPort p u).leases = s.leases := rfl
@[simp] theorem setPort_timers (p : PortId) (u : Port) : (s.setPort p u).timers = s.timers := rfl
@[simp] theorem setPort_timebase (p : PortId) (u : Port) : (s.setPort p u).timebase = s.timebase := rfl
@[simp] theorem setPort_capacity (p : PortId) (u : Port) : (s.setPort p u).capacity = s.capacity := rfl
@[simp] theorem setPort_committed (p : PortId) (u : Port) : (s.setPort p u).committed = s.committed := rfl
@[simp] theorem setPort_streams (p : PortId) (u : Port) : (s.setPort p u).streams = s.streams := rfl
@[simp] theorem setPort_lastServed (p : PortId) (u : Port) : (s.setPort p u).lastServed = s.lastServed := rfl
@[simp] theorem setPort_holdQueues (p : PortId) (u : Port) : (s.setPort p u).holdQueues = s.holdQueues := rfl
@[simp] theorem setPort_releases (p : PortId) (u : Port) : (s.setPort p u).releases = s.releases := rfl
@[simp] theorem setPort_poolFree (p : PortId) (u : Port) : (s.setPort p u).poolFree = s.poolFree := rfl
@[simp] theorem setPort_gQueue (p : PortId) (u : Port) : (s.setPort p u).gQueue = s.gQueue := rfl
@[simp] theorem setPort_sQueue (p : PortId) (u : Port) : (s.setPort p u).sQueue = s.sQueue := rfl
@[simp] theorem setPort_gRun (p : PortId) (u : Port) : (s.setPort p u).gRun = s.gRun := rfl
@[simp] theorem setPort_tags (p : PortId) (u : Port) : (s.setPort p u).tags = s.tags := rfl
@[simp] theorem setPort_link (p : PortId) (u : Port) : (s.setPort p u).link = s.link := rfl
@[simp] theorem setPort_readyLevel (p : PortId) (u : Port) : (s.setPort p u).readyLevel = s.readyLevel := rfl
@[simp] theorem setPort_responseTimeout (p : PortId) (u : Port) : (s.setPort p u).responseTimeout = s.responseTimeout := rfl
@[simp] theorem setPort_engine (p : PortId) (u : Port) : (s.setPort p u).engine = s.engine := rfl
@[simp] theorem setPort_attention (p : PortId) (u : Port) : (s.setPort p u).attention = s.attention := rfl
@[simp] theorem setPort_intStatus (p : PortId) (u : Port) : (s.setPort p u).intStatus = s.intStatus := rfl
@[simp] theorem setPort_intEnable (p : PortId) (u : Port) : (s.setPort p u).intEnable = s.intEnable := rfl
@[simp] theorem setPort_sent (p : PortId) (u : Port) : (s.setPort p u).sent = s.sent := rfl
@[simp] theorem setPort_memoryOut (p : PortId) (u : Port) : (s.setPort p u).memoryOut = s.memoryOut := rfl
@[simp] theorem setPort_freeIndex (p : PortId) (u : Port) : (s.setPort p u).freeIndex = s.freeIndex := rfl
@[simp] theorem setPort_delayed (p : PortId) (u : Port) : (s.setPort p u).delayed = s.delayed := rfl
@[simp] theorem setPort_pending (p : PortId) (u : Port) : (s.setPort p u).pending = s.pending := rfl

/-! ### setSlot -/

@[simp] theorem setSlot_leases (p : PortId) (t : StreamTag) (b : Option LeaseId) : (s.setSlot p t b).leases = s.leases := rfl
@[simp] theorem setSlot_timers (p : PortId) (t : StreamTag) (b : Option LeaseId) : (s.setSlot p t b).timers = s.timers := rfl
@[simp] theorem setSlot_timebase (p : PortId) (t : StreamTag) (b : Option LeaseId) : (s.setSlot p t b).timebase = s.timebase := rfl
@[simp] theorem setSlot_capacity (p : PortId) (t : StreamTag) (b : Option LeaseId) : (s.setSlot p t b).capacity = s.capacity := rfl
@[simp] theorem setSlot_committed (p : PortId) (t : StreamTag) (b : Option LeaseId) : (s.setSlot p t b).committed = s.committed := rfl
@[simp] theorem setSlot_ports (p : PortId) (t : StreamTag) (b : Option LeaseId) : (s.setSlot p t b).ports = s.ports := rfl
@[simp] theorem setSlot_lastServed (p : PortId) (t : StreamTag) (b : Option LeaseId) : (s.setSlot p t b).lastServed = s.lastServed := rfl
@[simp] theorem setSlot_holdQueues (p : PortId) (t : StreamTag) (b : Option LeaseId) : (s.setSlot p t b).holdQueues = s.holdQueues := rfl
@[simp] theorem setSlot_releases (p : PortId) (t : StreamTag) (b : Option LeaseId) : (s.setSlot p t b).releases = s.releases := rfl
@[simp] theorem setSlot_poolFree (p : PortId) (t : StreamTag) (b : Option LeaseId) : (s.setSlot p t b).poolFree = s.poolFree := rfl
@[simp] theorem setSlot_gQueue (p : PortId) (t : StreamTag) (b : Option LeaseId) : (s.setSlot p t b).gQueue = s.gQueue := rfl
@[simp] theorem setSlot_sQueue (p : PortId) (t : StreamTag) (b : Option LeaseId) : (s.setSlot p t b).sQueue = s.sQueue := rfl
@[simp] theorem setSlot_gRun (p : PortId) (t : StreamTag) (b : Option LeaseId) : (s.setSlot p t b).gRun = s.gRun := rfl
@[simp] theorem setSlot_tags (p : PortId) (t : StreamTag) (b : Option LeaseId) : (s.setSlot p t b).tags = s.tags := rfl
@[simp] theorem setSlot_link (p : PortId) (t : StreamTag) (b : Option LeaseId) : (s.setSlot p t b).link = s.link := rfl
@[simp] theorem setSlot_readyLevel (p : PortId) (t : StreamTag) (b : Option LeaseId) : (s.setSlot p t b).readyLevel = s.readyLevel := rfl
@[simp] theorem setSlot_responseTimeout (p : PortId) (t : StreamTag) (b : Option LeaseId) : (s.setSlot p t b).responseTimeout = s.responseTimeout := rfl
@[simp] theorem setSlot_engine (p : PortId) (t : StreamTag) (b : Option LeaseId) : (s.setSlot p t b).engine = s.engine := rfl
@[simp] theorem setSlot_attention (p : PortId) (t : StreamTag) (b : Option LeaseId) : (s.setSlot p t b).attention = s.attention := rfl
@[simp] theorem setSlot_intStatus (p : PortId) (t : StreamTag) (b : Option LeaseId) : (s.setSlot p t b).intStatus = s.intStatus := rfl
@[simp] theorem setSlot_intEnable (p : PortId) (t : StreamTag) (b : Option LeaseId) : (s.setSlot p t b).intEnable = s.intEnable := rfl
@[simp] theorem setSlot_sent (p : PortId) (t : StreamTag) (b : Option LeaseId) : (s.setSlot p t b).sent = s.sent := rfl
@[simp] theorem setSlot_memoryOut (p : PortId) (t : StreamTag) (b : Option LeaseId) : (s.setSlot p t b).memoryOut = s.memoryOut := rfl
@[simp] theorem setSlot_freeIndex (p : PortId) (t : StreamTag) (b : Option LeaseId) : (s.setSlot p t b).freeIndex = s.freeIndex := rfl
@[simp] theorem setSlot_delayed (p : PortId) (t : StreamTag) (b : Option LeaseId) : (s.setSlot p t b).delayed = s.delayed := rfl
@[simp] theorem setSlot_pending (p : PortId) (t : StreamTag) (b : Option LeaseId) : (s.setSlot p t b).pending = s.pending := rfl

/-! ### setHoldQueue -/

@[simp] theorem setHoldQueue_leases (l : LeaseId) (q : List HeldEntry) : (s.setHoldQueue l q).leases = s.leases := rfl
@[simp] theorem setHoldQueue_timers (l : LeaseId) (q : List HeldEntry) : (s.setHoldQueue l q).timers = s.timers := rfl
@[simp] theorem setHoldQueue_timebase (l : LeaseId) (q : List HeldEntry) : (s.setHoldQueue l q).timebase = s.timebase := rfl
@[simp] theorem setHoldQueue_capacity (l : LeaseId) (q : List HeldEntry) : (s.setHoldQueue l q).capacity = s.capacity := rfl
@[simp] theorem setHoldQueue_committed (l : LeaseId) (q : List HeldEntry) : (s.setHoldQueue l q).committed = s.committed := rfl
@[simp] theorem setHoldQueue_ports (l : LeaseId) (q : List HeldEntry) : (s.setHoldQueue l q).ports = s.ports := rfl
@[simp] theorem setHoldQueue_streams (l : LeaseId) (q : List HeldEntry) : (s.setHoldQueue l q).streams = s.streams := rfl
@[simp] theorem setHoldQueue_lastServed (l : LeaseId) (q : List HeldEntry) : (s.setHoldQueue l q).lastServed = s.lastServed := rfl
@[simp] theorem setHoldQueue_releases (l : LeaseId) (q : List HeldEntry) : (s.setHoldQueue l q).releases = s.releases := rfl
@[simp] theorem setHoldQueue_poolFree (l : LeaseId) (q : List HeldEntry) : (s.setHoldQueue l q).poolFree = s.poolFree := rfl
@[simp] theorem setHoldQueue_gQueue (l : LeaseId) (q : List HeldEntry) : (s.setHoldQueue l q).gQueue = s.gQueue := rfl
@[simp] theorem setHoldQueue_sQueue (l : LeaseId) (q : List HeldEntry) : (s.setHoldQueue l q).sQueue = s.sQueue := rfl
@[simp] theorem setHoldQueue_gRun (l : LeaseId) (q : List HeldEntry) : (s.setHoldQueue l q).gRun = s.gRun := rfl
@[simp] theorem setHoldQueue_tags (l : LeaseId) (q : List HeldEntry) : (s.setHoldQueue l q).tags = s.tags := rfl
@[simp] theorem setHoldQueue_link (l : LeaseId) (q : List HeldEntry) : (s.setHoldQueue l q).link = s.link := rfl
@[simp] theorem setHoldQueue_readyLevel (l : LeaseId) (q : List HeldEntry) : (s.setHoldQueue l q).readyLevel = s.readyLevel := rfl
@[simp] theorem setHoldQueue_responseTimeout (l : LeaseId) (q : List HeldEntry) : (s.setHoldQueue l q).responseTimeout = s.responseTimeout := rfl
@[simp] theorem setHoldQueue_engine (l : LeaseId) (q : List HeldEntry) : (s.setHoldQueue l q).engine = s.engine := rfl
@[simp] theorem setHoldQueue_attention (l : LeaseId) (q : List HeldEntry) : (s.setHoldQueue l q).attention = s.attention := rfl
@[simp] theorem setHoldQueue_intStatus (l : LeaseId) (q : List HeldEntry) : (s.setHoldQueue l q).intStatus = s.intStatus := rfl
@[simp] theorem setHoldQueue_intEnable (l : LeaseId) (q : List HeldEntry) : (s.setHoldQueue l q).intEnable = s.intEnable := rfl
@[simp] theorem setHoldQueue_sent (l : LeaseId) (q : List HeldEntry) : (s.setHoldQueue l q).sent = s.sent := rfl
@[simp] theorem setHoldQueue_memoryOut (l : LeaseId) (q : List HeldEntry) : (s.setHoldQueue l q).memoryOut = s.memoryOut := rfl
@[simp] theorem setHoldQueue_freeIndex (l : LeaseId) (q : List HeldEntry) : (s.setHoldQueue l q).freeIndex = s.freeIndex := rfl
@[simp] theorem setHoldQueue_delayed (l : LeaseId) (q : List HeldEntry) : (s.setHoldQueue l q).delayed = s.delayed := rfl
@[simp] theorem setHoldQueue_pending (l : LeaseId) (q : List HeldEntry) : (s.setHoldQueue l q).pending = s.pending := rfl

/-! ### setRelease -/

@[simp] theorem setRelease_leases (l : LeaseId) (r : ReleaseState) : (s.setRelease l r).leases = s.leases := rfl
@[simp] theorem setRelease_timers (l : LeaseId) (r : ReleaseState) : (s.setRelease l r).timers = s.timers := rfl
@[simp] theorem setRelease_timebase (l : LeaseId) (r : ReleaseState) : (s.setRelease l r).timebase = s.timebase := rfl
@[simp] theorem setRelease_capacity (l : LeaseId) (r : ReleaseState) : (s.setRelease l r).capacity = s.capacity := rfl
@[simp] theorem setRelease_committed (l : LeaseId) (r : ReleaseState) : (s.setRelease l r).committed = s.committed := rfl
@[simp] theorem setRelease_ports (l : LeaseId) (r : ReleaseState) : (s.setRelease l r).ports = s.ports := rfl
@[simp] theorem setRelease_streams (l : LeaseId) (r : ReleaseState) : (s.setRelease l r).streams = s.streams := rfl
@[simp] theorem setRelease_lastServed (l : LeaseId) (r : ReleaseState) : (s.setRelease l r).lastServed = s.lastServed := rfl
@[simp] theorem setRelease_holdQueues (l : LeaseId) (r : ReleaseState) : (s.setRelease l r).holdQueues = s.holdQueues := rfl
@[simp] theorem setRelease_poolFree (l : LeaseId) (r : ReleaseState) : (s.setRelease l r).poolFree = s.poolFree := rfl
@[simp] theorem setRelease_gQueue (l : LeaseId) (r : ReleaseState) : (s.setRelease l r).gQueue = s.gQueue := rfl
@[simp] theorem setRelease_sQueue (l : LeaseId) (r : ReleaseState) : (s.setRelease l r).sQueue = s.sQueue := rfl
@[simp] theorem setRelease_gRun (l : LeaseId) (r : ReleaseState) : (s.setRelease l r).gRun = s.gRun := rfl
@[simp] theorem setRelease_tags (l : LeaseId) (r : ReleaseState) : (s.setRelease l r).tags = s.tags := rfl
@[simp] theorem setRelease_link (l : LeaseId) (r : ReleaseState) : (s.setRelease l r).link = s.link := rfl
@[simp] theorem setRelease_readyLevel (l : LeaseId) (r : ReleaseState) : (s.setRelease l r).readyLevel = s.readyLevel := rfl
@[simp] theorem setRelease_responseTimeout (l : LeaseId) (r : ReleaseState) : (s.setRelease l r).responseTimeout = s.responseTimeout := rfl
@[simp] theorem setRelease_engine (l : LeaseId) (r : ReleaseState) : (s.setRelease l r).engine = s.engine := rfl
@[simp] theorem setRelease_attention (l : LeaseId) (r : ReleaseState) : (s.setRelease l r).attention = s.attention := rfl
@[simp] theorem setRelease_intStatus (l : LeaseId) (r : ReleaseState) : (s.setRelease l r).intStatus = s.intStatus := rfl
@[simp] theorem setRelease_intEnable (l : LeaseId) (r : ReleaseState) : (s.setRelease l r).intEnable = s.intEnable := rfl
@[simp] theorem setRelease_sent (l : LeaseId) (r : ReleaseState) : (s.setRelease l r).sent = s.sent := rfl
@[simp] theorem setRelease_memoryOut (l : LeaseId) (r : ReleaseState) : (s.setRelease l r).memoryOut = s.memoryOut := rfl
@[simp] theorem setRelease_freeIndex (l : LeaseId) (r : ReleaseState) : (s.setRelease l r).freeIndex = s.freeIndex := rfl
@[simp] theorem setRelease_delayed (l : LeaseId) (r : ReleaseState) : (s.setRelease l r).delayed = s.delayed := rfl
@[simp] theorem setRelease_pending (l : LeaseId) (r : ReleaseState) : (s.setRelease l r).pending = s.pending := rfl

/-! ### setTag -/

@[simp] theorem setTag_leases (t : TagId) (v : Tag) : (s.setTag t v).leases = s.leases := rfl
@[simp] theorem setTag_timers (t : TagId) (v : Tag) : (s.setTag t v).timers = s.timers := rfl
@[simp] theorem setTag_timebase (t : TagId) (v : Tag) : (s.setTag t v).timebase = s.timebase := rfl
@[simp] theorem setTag_capacity (t : TagId) (v : Tag) : (s.setTag t v).capacity = s.capacity := rfl
@[simp] theorem setTag_committed (t : TagId) (v : Tag) : (s.setTag t v).committed = s.committed := rfl
@[simp] theorem setTag_ports (t : TagId) (v : Tag) : (s.setTag t v).ports = s.ports := rfl
@[simp] theorem setTag_streams (t : TagId) (v : Tag) : (s.setTag t v).streams = s.streams := rfl
@[simp] theorem setTag_lastServed (t : TagId) (v : Tag) : (s.setTag t v).lastServed = s.lastServed := rfl
@[simp] theorem setTag_holdQueues (t : TagId) (v : Tag) : (s.setTag t v).holdQueues = s.holdQueues := rfl
@[simp] theorem setTag_releases (t : TagId) (v : Tag) : (s.setTag t v).releases = s.releases := rfl
@[simp] theorem setTag_poolFree (t : TagId) (v : Tag) : (s.setTag t v).poolFree = s.poolFree := rfl
@[simp] theorem setTag_gQueue (t : TagId) (v : Tag) : (s.setTag t v).gQueue = s.gQueue := rfl
@[simp] theorem setTag_sQueue (t : TagId) (v : Tag) : (s.setTag t v).sQueue = s.sQueue := rfl
@[simp] theorem setTag_gRun (t : TagId) (v : Tag) : (s.setTag t v).gRun = s.gRun := rfl
@[simp] theorem setTag_link (t : TagId) (v : Tag) : (s.setTag t v).link = s.link := rfl
@[simp] theorem setTag_readyLevel (t : TagId) (v : Tag) : (s.setTag t v).readyLevel = s.readyLevel := rfl
@[simp] theorem setTag_responseTimeout (t : TagId) (v : Tag) : (s.setTag t v).responseTimeout = s.responseTimeout := rfl
@[simp] theorem setTag_engine (t : TagId) (v : Tag) : (s.setTag t v).engine = s.engine := rfl
@[simp] theorem setTag_attention (t : TagId) (v : Tag) : (s.setTag t v).attention = s.attention := rfl
@[simp] theorem setTag_intStatus (t : TagId) (v : Tag) : (s.setTag t v).intStatus = s.intStatus := rfl
@[simp] theorem setTag_intEnable (t : TagId) (v : Tag) : (s.setTag t v).intEnable = s.intEnable := rfl
@[simp] theorem setTag_sent (t : TagId) (v : Tag) : (s.setTag t v).sent = s.sent := rfl
@[simp] theorem setTag_memoryOut (t : TagId) (v : Tag) : (s.setTag t v).memoryOut = s.memoryOut := rfl
@[simp] theorem setTag_freeIndex (t : TagId) (v : Tag) : (s.setTag t v).freeIndex = s.freeIndex := rfl
@[simp] theorem setTag_delayed (t : TagId) (v : Tag) : (s.setTag t v).delayed = s.delayed := rfl
@[simp] theorem setTag_pending (t : TagId) (v : Tag) : (s.setTag t v).pending = s.pending := rfl

/-! ### setPoolFree -/

@[simp] theorem setPoolFree_leases (n : Nat) : (s.setPoolFree n).leases = s.leases := rfl
@[simp] theorem setPoolFree_timers (n : Nat) : (s.setPoolFree n).timers = s.timers := rfl
@[simp] theorem setPoolFree_timebase (n : Nat) : (s.setPoolFree n).timebase = s.timebase := rfl
@[simp] theorem setPoolFree_capacity (n : Nat) : (s.setPoolFree n).capacity = s.capacity := rfl
@[simp] theorem setPoolFree_committed (n : Nat) : (s.setPoolFree n).committed = s.committed := rfl
@[simp] theorem setPoolFree_ports (n : Nat) : (s.setPoolFree n).ports = s.ports := rfl
@[simp] theorem setPoolFree_streams (n : Nat) : (s.setPoolFree n).streams = s.streams := rfl
@[simp] theorem setPoolFree_lastServed (n : Nat) : (s.setPoolFree n).lastServed = s.lastServed := rfl
@[simp] theorem setPoolFree_holdQueues (n : Nat) : (s.setPoolFree n).holdQueues = s.holdQueues := rfl
@[simp] theorem setPoolFree_releases (n : Nat) : (s.setPoolFree n).releases = s.releases := rfl
@[simp] theorem setPoolFree_gQueue (n : Nat) : (s.setPoolFree n).gQueue = s.gQueue := rfl
@[simp] theorem setPoolFree_sQueue (n : Nat) : (s.setPoolFree n).sQueue = s.sQueue := rfl
@[simp] theorem setPoolFree_gRun (n : Nat) : (s.setPoolFree n).gRun = s.gRun := rfl
@[simp] theorem setPoolFree_tags (n : Nat) : (s.setPoolFree n).tags = s.tags := rfl
@[simp] theorem setPoolFree_link (n : Nat) : (s.setPoolFree n).link = s.link := rfl
@[simp] theorem setPoolFree_readyLevel (n : Nat) : (s.setPoolFree n).readyLevel = s.readyLevel := rfl
@[simp] theorem setPoolFree_responseTimeout (n : Nat) : (s.setPoolFree n).responseTimeout = s.responseTimeout := rfl
@[simp] theorem setPoolFree_engine (n : Nat) : (s.setPoolFree n).engine = s.engine := rfl
@[simp] theorem setPoolFree_attention (n : Nat) : (s.setPoolFree n).attention = s.attention := rfl
@[simp] theorem setPoolFree_intStatus (n : Nat) : (s.setPoolFree n).intStatus = s.intStatus := rfl
@[simp] theorem setPoolFree_intEnable (n : Nat) : (s.setPoolFree n).intEnable = s.intEnable := rfl
@[simp] theorem setPoolFree_sent (n : Nat) : (s.setPoolFree n).sent = s.sent := rfl
@[simp] theorem setPoolFree_memoryOut (n : Nat) : (s.setPoolFree n).memoryOut = s.memoryOut := rfl
@[simp] theorem setPoolFree_freeIndex (n : Nat) : (s.setPoolFree n).freeIndex = s.freeIndex := rfl
@[simp] theorem setPoolFree_delayed (n : Nat) : (s.setPoolFree n).delayed = s.delayed := rfl
@[simp] theorem setPoolFree_pending (n : Nat) : (s.setPoolFree n).pending = s.pending := rfl

/-! ### setCommitted -/

@[simp] theorem setCommitted_leases (n : Nat) : (s.setCommitted n).leases = s.leases := rfl
@[simp] theorem setCommitted_timers (n : Nat) : (s.setCommitted n).timers = s.timers := rfl
@[simp] theorem setCommitted_timebase (n : Nat) : (s.setCommitted n).timebase = s.timebase := rfl
@[simp] theorem setCommitted_capacity (n : Nat) : (s.setCommitted n).capacity = s.capacity := rfl
@[simp] theorem setCommitted_ports (n : Nat) : (s.setCommitted n).ports = s.ports := rfl
@[simp] theorem setCommitted_streams (n : Nat) : (s.setCommitted n).streams = s.streams := rfl
@[simp] theorem setCommitted_lastServed (n : Nat) : (s.setCommitted n).lastServed = s.lastServed := rfl
@[simp] theorem setCommitted_holdQueues (n : Nat) : (s.setCommitted n).holdQueues = s.holdQueues := rfl
@[simp] theorem setCommitted_releases (n : Nat) : (s.setCommitted n).releases = s.releases := rfl
@[simp] theorem setCommitted_poolFree (n : Nat) : (s.setCommitted n).poolFree = s.poolFree := rfl
@[simp] theorem setCommitted_gQueue (n : Nat) : (s.setCommitted n).gQueue = s.gQueue := rfl
@[simp] theorem setCommitted_sQueue (n : Nat) : (s.setCommitted n).sQueue = s.sQueue := rfl
@[simp] theorem setCommitted_gRun (n : Nat) : (s.setCommitted n).gRun = s.gRun := rfl
@[simp] theorem setCommitted_tags (n : Nat) : (s.setCommitted n).tags = s.tags := rfl
@[simp] theorem setCommitted_link (n : Nat) : (s.setCommitted n).link = s.link := rfl
@[simp] theorem setCommitted_readyLevel (n : Nat) : (s.setCommitted n).readyLevel = s.readyLevel := rfl
@[simp] theorem setCommitted_responseTimeout (n : Nat) : (s.setCommitted n).responseTimeout = s.responseTimeout := rfl
@[simp] theorem setCommitted_engine (n : Nat) : (s.setCommitted n).engine = s.engine := rfl
@[simp] theorem setCommitted_attention (n : Nat) : (s.setCommitted n).attention = s.attention := rfl
@[simp] theorem setCommitted_intStatus (n : Nat) : (s.setCommitted n).intStatus = s.intStatus := rfl
@[simp] theorem setCommitted_intEnable (n : Nat) : (s.setCommitted n).intEnable = s.intEnable := rfl
@[simp] theorem setCommitted_sent (n : Nat) : (s.setCommitted n).sent = s.sent := rfl
@[simp] theorem setCommitted_memoryOut (n : Nat) : (s.setCommitted n).memoryOut = s.memoryOut := rfl
@[simp] theorem setCommitted_freeIndex (n : Nat) : (s.setCommitted n).freeIndex = s.freeIndex := rfl
@[simp] theorem setCommitted_delayed (n : Nat) : (s.setCommitted n).delayed = s.delayed := rfl
@[simp] theorem setCommitted_pending (n : Nat) : (s.setCommitted n).pending = s.pending := rfl

/-! ### setEngineState -/

@[simp] theorem setEngineState_leases (e : EngineState) : (s.setEngineState e).leases = s.leases := rfl
@[simp] theorem setEngineState_timers (e : EngineState) : (s.setEngineState e).timers = s.timers := rfl
@[simp] theorem setEngineState_timebase (e : EngineState) : (s.setEngineState e).timebase = s.timebase := rfl
@[simp] theorem setEngineState_capacity (e : EngineState) : (s.setEngineState e).capacity = s.capacity := rfl
@[simp] theorem setEngineState_committed (e : EngineState) : (s.setEngineState e).committed = s.committed := rfl
@[simp] theorem setEngineState_ports (e : EngineState) : (s.setEngineState e).ports = s.ports := rfl
@[simp] theorem setEngineState_streams (e : EngineState) : (s.setEngineState e).streams = s.streams := rfl
@[simp] theorem setEngineState_lastServed (e : EngineState) : (s.setEngineState e).lastServed = s.lastServed := rfl
@[simp] theorem setEngineState_holdQueues (e : EngineState) : (s.setEngineState e).holdQueues = s.holdQueues := rfl
@[simp] theorem setEngineState_releases (e : EngineState) : (s.setEngineState e).releases = s.releases := rfl
@[simp] theorem setEngineState_poolFree (e : EngineState) : (s.setEngineState e).poolFree = s.poolFree := rfl
@[simp] theorem setEngineState_gQueue (e : EngineState) : (s.setEngineState e).gQueue = s.gQueue := rfl
@[simp] theorem setEngineState_sQueue (e : EngineState) : (s.setEngineState e).sQueue = s.sQueue := rfl
@[simp] theorem setEngineState_gRun (e : EngineState) : (s.setEngineState e).gRun = s.gRun := rfl
@[simp] theorem setEngineState_tags (e : EngineState) : (s.setEngineState e).tags = s.tags := rfl
@[simp] theorem setEngineState_link (e : EngineState) : (s.setEngineState e).link = s.link := rfl
@[simp] theorem setEngineState_readyLevel (e : EngineState) : (s.setEngineState e).readyLevel = s.readyLevel := rfl
@[simp] theorem setEngineState_responseTimeout (e : EngineState) : (s.setEngineState e).responseTimeout = s.responseTimeout := rfl
@[simp] theorem setEngineState_attention (e : EngineState) : (s.setEngineState e).attention = s.attention := rfl
@[simp] theorem setEngineState_intStatus (e : EngineState) : (s.setEngineState e).intStatus = s.intStatus := rfl
@[simp] theorem setEngineState_intEnable (e : EngineState) : (s.setEngineState e).intEnable = s.intEnable := rfl
@[simp] theorem setEngineState_sent (e : EngineState) : (s.setEngineState e).sent = s.sent := rfl
@[simp] theorem setEngineState_memoryOut (e : EngineState) : (s.setEngineState e).memoryOut = s.memoryOut := rfl
@[simp] theorem setEngineState_freeIndex (e : EngineState) : (s.setEngineState e).freeIndex = s.freeIndex := rfl
@[simp] theorem setEngineState_delayed (e : EngineState) : (s.setEngineState e).delayed = s.delayed := rfl
@[simp] theorem setEngineState_pending (e : EngineState) : (s.setEngineState e).pending = s.pending := rfl

/-! ### setSource -/

@[simp] theorem setSource_leases (src : Source) : (setSource src s).leases = s.leases := rfl
@[simp] theorem setSource_timers (src : Source) : (setSource src s).timers = s.timers := rfl
@[simp] theorem setSource_timebase (src : Source) : (setSource src s).timebase = s.timebase := rfl
@[simp] theorem setSource_capacity (src : Source) : (setSource src s).capacity = s.capacity := rfl
@[simp] theorem setSource_committed (src : Source) : (setSource src s).committed = s.committed := rfl
@[simp] theorem setSource_ports (src : Source) : (setSource src s).ports = s.ports := rfl
@[simp] theorem setSource_streams (src : Source) : (setSource src s).streams = s.streams := rfl
@[simp] theorem setSource_lastServed (src : Source) : (setSource src s).lastServed = s.lastServed := rfl
@[simp] theorem setSource_holdQueues (src : Source) : (setSource src s).holdQueues = s.holdQueues := rfl
@[simp] theorem setSource_releases (src : Source) : (setSource src s).releases = s.releases := rfl
@[simp] theorem setSource_poolFree (src : Source) : (setSource src s).poolFree = s.poolFree := rfl
@[simp] theorem setSource_gQueue (src : Source) : (setSource src s).gQueue = s.gQueue := rfl
@[simp] theorem setSource_sQueue (src : Source) : (setSource src s).sQueue = s.sQueue := rfl
@[simp] theorem setSource_gRun (src : Source) : (setSource src s).gRun = s.gRun := rfl
@[simp] theorem setSource_tags (src : Source) : (setSource src s).tags = s.tags := rfl
@[simp] theorem setSource_link (src : Source) : (setSource src s).link = s.link := rfl
@[simp] theorem setSource_readyLevel (src : Source) : (setSource src s).readyLevel = s.readyLevel := rfl
@[simp] theorem setSource_responseTimeout (src : Source) : (setSource src s).responseTimeout = s.responseTimeout := rfl
@[simp] theorem setSource_engine (src : Source) : (setSource src s).engine = s.engine := rfl
@[simp] theorem setSource_attention (src : Source) : (setSource src s).attention = s.attention := rfl
@[simp] theorem setSource_intEnable (src : Source) : (setSource src s).intEnable = s.intEnable := rfl
@[simp] theorem setSource_sent (src : Source) : (setSource src s).sent = s.sent := rfl
@[simp] theorem setSource_memoryOut (src : Source) : (setSource src s).memoryOut = s.memoryOut := rfl
@[simp] theorem setSource_freeIndex (src : Source) : (setSource src s).freeIndex = s.freeIndex := rfl
@[simp] theorem setSource_delayed (src : Source) : (setSource src s).delayed = s.delayed := rfl
@[simp] theorem setSource_pending (src : Source) : (setSource src s).pending = s.pending := rfl

/-! ### joinAttention -/

@[simp] theorem joinAttention_leases (l : LeaseId) : (joinAttention l s).leases = s.leases := rfl
@[simp] theorem joinAttention_timers (l : LeaseId) : (joinAttention l s).timers = s.timers := rfl
@[simp] theorem joinAttention_timebase (l : LeaseId) : (joinAttention l s).timebase = s.timebase := rfl
@[simp] theorem joinAttention_capacity (l : LeaseId) : (joinAttention l s).capacity = s.capacity := rfl
@[simp] theorem joinAttention_committed (l : LeaseId) : (joinAttention l s).committed = s.committed := rfl
@[simp] theorem joinAttention_ports (l : LeaseId) : (joinAttention l s).ports = s.ports := rfl
@[simp] theorem joinAttention_streams (l : LeaseId) : (joinAttention l s).streams = s.streams := rfl
@[simp] theorem joinAttention_lastServed (l : LeaseId) : (joinAttention l s).lastServed = s.lastServed := rfl
@[simp] theorem joinAttention_holdQueues (l : LeaseId) : (joinAttention l s).holdQueues = s.holdQueues := rfl
@[simp] theorem joinAttention_releases (l : LeaseId) : (joinAttention l s).releases = s.releases := rfl
@[simp] theorem joinAttention_poolFree (l : LeaseId) : (joinAttention l s).poolFree = s.poolFree := rfl
@[simp] theorem joinAttention_gQueue (l : LeaseId) : (joinAttention l s).gQueue = s.gQueue := rfl
@[simp] theorem joinAttention_sQueue (l : LeaseId) : (joinAttention l s).sQueue = s.sQueue := rfl
@[simp] theorem joinAttention_gRun (l : LeaseId) : (joinAttention l s).gRun = s.gRun := rfl
@[simp] theorem joinAttention_tags (l : LeaseId) : (joinAttention l s).tags = s.tags := rfl
@[simp] theorem joinAttention_link (l : LeaseId) : (joinAttention l s).link = s.link := rfl
@[simp] theorem joinAttention_readyLevel (l : LeaseId) : (joinAttention l s).readyLevel = s.readyLevel := rfl
@[simp] theorem joinAttention_responseTimeout (l : LeaseId) : (joinAttention l s).responseTimeout = s.responseTimeout := rfl
@[simp] theorem joinAttention_engine (l : LeaseId) : (joinAttention l s).engine = s.engine := rfl
@[simp] theorem joinAttention_intEnable (l : LeaseId) : (joinAttention l s).intEnable = s.intEnable := rfl
@[simp] theorem joinAttention_sent (l : LeaseId) : (joinAttention l s).sent = s.sent := rfl
@[simp] theorem joinAttention_memoryOut (l : LeaseId) : (joinAttention l s).memoryOut = s.memoryOut := rfl
@[simp] theorem joinAttention_freeIndex (l : LeaseId) : (joinAttention l s).freeIndex = s.freeIndex := rfl
@[simp] theorem joinAttention_delayed (l : LeaseId) : (joinAttention l s).delayed = s.delayed := rfl
@[simp] theorem joinAttention_pending (l : LeaseId) : (joinAttention l s).pending = s.pending := rfl

/-! ### leaveAttention -/

@[simp] theorem leaveAttention_leases (l : LeaseId) : (leaveAttention l s).leases = s.leases := rfl
@[simp] theorem leaveAttention_timers (l : LeaseId) : (leaveAttention l s).timers = s.timers := rfl
@[simp] theorem leaveAttention_timebase (l : LeaseId) : (leaveAttention l s).timebase = s.timebase := rfl
@[simp] theorem leaveAttention_capacity (l : LeaseId) : (leaveAttention l s).capacity = s.capacity := rfl
@[simp] theorem leaveAttention_committed (l : LeaseId) : (leaveAttention l s).committed = s.committed := rfl
@[simp] theorem leaveAttention_ports (l : LeaseId) : (leaveAttention l s).ports = s.ports := rfl
@[simp] theorem leaveAttention_streams (l : LeaseId) : (leaveAttention l s).streams = s.streams := rfl
@[simp] theorem leaveAttention_lastServed (l : LeaseId) : (leaveAttention l s).lastServed = s.lastServed := rfl
@[simp] theorem leaveAttention_holdQueues (l : LeaseId) : (leaveAttention l s).holdQueues = s.holdQueues := rfl
@[simp] theorem leaveAttention_releases (l : LeaseId) : (leaveAttention l s).releases = s.releases := rfl
@[simp] theorem leaveAttention_poolFree (l : LeaseId) : (leaveAttention l s).poolFree = s.poolFree := rfl
@[simp] theorem leaveAttention_gQueue (l : LeaseId) : (leaveAttention l s).gQueue = s.gQueue := rfl
@[simp] theorem leaveAttention_sQueue (l : LeaseId) : (leaveAttention l s).sQueue = s.sQueue := rfl
@[simp] theorem leaveAttention_gRun (l : LeaseId) : (leaveAttention l s).gRun = s.gRun := rfl
@[simp] theorem leaveAttention_tags (l : LeaseId) : (leaveAttention l s).tags = s.tags := rfl
@[simp] theorem leaveAttention_link (l : LeaseId) : (leaveAttention l s).link = s.link := rfl
@[simp] theorem leaveAttention_readyLevel (l : LeaseId) : (leaveAttention l s).readyLevel = s.readyLevel := rfl
@[simp] theorem leaveAttention_responseTimeout (l : LeaseId) : (leaveAttention l s).responseTimeout = s.responseTimeout := rfl
@[simp] theorem leaveAttention_engine (l : LeaseId) : (leaveAttention l s).engine = s.engine := rfl
@[simp] theorem leaveAttention_intStatus (l : LeaseId) : (leaveAttention l s).intStatus = s.intStatus := rfl
@[simp] theorem leaveAttention_intEnable (l : LeaseId) : (leaveAttention l s).intEnable = s.intEnable := rfl
@[simp] theorem leaveAttention_sent (l : LeaseId) : (leaveAttention l s).sent = s.sent := rfl
@[simp] theorem leaveAttention_memoryOut (l : LeaseId) : (leaveAttention l s).memoryOut = s.memoryOut := rfl
@[simp] theorem leaveAttention_freeIndex (l : LeaseId) : (leaveAttention l s).freeIndex = s.freeIndex := rfl
@[simp] theorem leaveAttention_delayed (l : LeaseId) : (leaveAttention l s).delayed = s.delayed := rfl
@[simp] theorem leaveAttention_pending (l : LeaseId) : (leaveAttention l s).pending = s.pending := rfl

/-! ### sendResponse -/

@[simp] theorem sendResponse_leases (p : PortId) (id : Byte) (st : ClientStatus) (d : List Beat) : (sendResponse p id st d s).leases = s.leases := rfl
@[simp] theorem sendResponse_timers (p : PortId) (id : Byte) (st : ClientStatus) (d : List Beat) : (sendResponse p id st d s).timers = s.timers := rfl
@[simp] theorem sendResponse_timebase (p : PortId) (id : Byte) (st : ClientStatus) (d : List Beat) : (sendResponse p id st d s).timebase = s.timebase := rfl
@[simp] theorem sendResponse_capacity (p : PortId) (id : Byte) (st : ClientStatus) (d : List Beat) : (sendResponse p id st d s).capacity = s.capacity := rfl
@[simp] theorem sendResponse_committed (p : PortId) (id : Byte) (st : ClientStatus) (d : List Beat) : (sendResponse p id st d s).committed = s.committed := rfl
@[simp] theorem sendResponse_ports (p : PortId) (id : Byte) (st : ClientStatus) (d : List Beat) : (sendResponse p id st d s).ports = s.ports := rfl
@[simp] theorem sendResponse_streams (p : PortId) (id : Byte) (st : ClientStatus) (d : List Beat) : (sendResponse p id st d s).streams = s.streams := rfl
@[simp] theorem sendResponse_lastServed (p : PortId) (id : Byte) (st : ClientStatus) (d : List Beat) : (sendResponse p id st d s).lastServed = s.lastServed := rfl
@[simp] theorem sendResponse_holdQueues (p : PortId) (id : Byte) (st : ClientStatus) (d : List Beat) : (sendResponse p id st d s).holdQueues = s.holdQueues := rfl
@[simp] theorem sendResponse_releases (p : PortId) (id : Byte) (st : ClientStatus) (d : List Beat) : (sendResponse p id st d s).releases = s.releases := rfl
@[simp] theorem sendResponse_poolFree (p : PortId) (id : Byte) (st : ClientStatus) (d : List Beat) : (sendResponse p id st d s).poolFree = s.poolFree := rfl
@[simp] theorem sendResponse_gQueue (p : PortId) (id : Byte) (st : ClientStatus) (d : List Beat) : (sendResponse p id st d s).gQueue = s.gQueue := rfl
@[simp] theorem sendResponse_sQueue (p : PortId) (id : Byte) (st : ClientStatus) (d : List Beat) : (sendResponse p id st d s).sQueue = s.sQueue := rfl
@[simp] theorem sendResponse_gRun (p : PortId) (id : Byte) (st : ClientStatus) (d : List Beat) : (sendResponse p id st d s).gRun = s.gRun := rfl
@[simp] theorem sendResponse_tags (p : PortId) (id : Byte) (st : ClientStatus) (d : List Beat) : (sendResponse p id st d s).tags = s.tags := rfl
@[simp] theorem sendResponse_link (p : PortId) (id : Byte) (st : ClientStatus) (d : List Beat) : (sendResponse p id st d s).link = s.link := rfl
@[simp] theorem sendResponse_readyLevel (p : PortId) (id : Byte) (st : ClientStatus) (d : List Beat) : (sendResponse p id st d s).readyLevel = s.readyLevel := rfl
@[simp] theorem sendResponse_responseTimeout (p : PortId) (id : Byte) (st : ClientStatus) (d : List Beat) : (sendResponse p id st d s).responseTimeout = s.responseTimeout := rfl
@[simp] theorem sendResponse_engine (p : PortId) (id : Byte) (st : ClientStatus) (d : List Beat) : (sendResponse p id st d s).engine = s.engine := rfl
@[simp] theorem sendResponse_attention (p : PortId) (id : Byte) (st : ClientStatus) (d : List Beat) : (sendResponse p id st d s).attention = s.attention := rfl
@[simp] theorem sendResponse_intStatus (p : PortId) (id : Byte) (st : ClientStatus) (d : List Beat) : (sendResponse p id st d s).intStatus = s.intStatus := rfl
@[simp] theorem sendResponse_intEnable (p : PortId) (id : Byte) (st : ClientStatus) (d : List Beat) : (sendResponse p id st d s).intEnable = s.intEnable := rfl
@[simp] theorem sendResponse_memoryOut (p : PortId) (id : Byte) (st : ClientStatus) (d : List Beat) : (sendResponse p id st d s).memoryOut = s.memoryOut := rfl
@[simp] theorem sendResponse_freeIndex (p : PortId) (id : Byte) (st : ClientStatus) (d : List Beat) : (sendResponse p id st d s).freeIndex = s.freeIndex := rfl
@[simp] theorem sendResponse_delayed (p : PortId) (id : Byte) (st : ClientStatus) (d : List Beat) : (sendResponse p id st d s).delayed = s.delayed := rfl
@[simp] theorem sendResponse_pending (p : PortId) (id : Byte) (st : ClientStatus) (d : List Beat) : (sendResponse p id st d s).pending = s.pending := rfl

/-! ### handTrigger -/

@[simp] theorem handTrigger_leases : (handTrigger s).leases = s.leases := rfl
@[simp] theorem handTrigger_timers : (handTrigger s).timers = s.timers := rfl
@[simp] theorem handTrigger_timebase : (handTrigger s).timebase = s.timebase := rfl
@[simp] theorem handTrigger_capacity : (handTrigger s).capacity = s.capacity := rfl
@[simp] theorem handTrigger_committed : (handTrigger s).committed = s.committed := rfl
@[simp] theorem handTrigger_streams : (handTrigger s).streams = s.streams := rfl
@[simp] theorem handTrigger_lastServed : (handTrigger s).lastServed = s.lastServed := rfl
@[simp] theorem handTrigger_holdQueues : (handTrigger s).holdQueues = s.holdQueues := rfl
@[simp] theorem handTrigger_poolFree : (handTrigger s).poolFree = s.poolFree := rfl
@[simp] theorem handTrigger_gQueue : (handTrigger s).gQueue = s.gQueue := rfl
@[simp] theorem handTrigger_sQueue : (handTrigger s).sQueue = s.sQueue := rfl
@[simp] theorem handTrigger_gRun : (handTrigger s).gRun = s.gRun := rfl
@[simp] theorem handTrigger_tags : (handTrigger s).tags = s.tags := rfl
@[simp] theorem handTrigger_link : (handTrigger s).link = s.link := rfl
@[simp] theorem handTrigger_readyLevel : (handTrigger s).readyLevel = s.readyLevel := rfl
@[simp] theorem handTrigger_responseTimeout : (handTrigger s).responseTimeout = s.responseTimeout := rfl
@[simp] theorem handTrigger_attention : (handTrigger s).attention = s.attention := rfl
@[simp] theorem handTrigger_intStatus : (handTrigger s).intStatus = s.intStatus := rfl
@[simp] theorem handTrigger_intEnable : (handTrigger s).intEnable = s.intEnable := rfl
@[simp] theorem handTrigger_sent : (handTrigger s).sent = s.sent := rfl
@[simp] theorem handTrigger_memoryOut : (handTrigger s).memoryOut = s.memoryOut := rfl
@[simp] theorem handTrigger_freeIndex : (handTrigger s).freeIndex = s.freeIndex := rfl
@[simp] theorem handTrigger_delayed : (handTrigger s).delayed = s.delayed := rfl
@[simp] theorem handTrigger_pending : (handTrigger s).pending = s.pending := rfl

end Sys2Proof.Machine
end

