-- ==== Sys2Proof/Laws/Reads.lean ====
section
/-!
SUPPORT. Reads of the tables after the named updates: the read of another table is unchanged, the read of the written place is
the value written, the read of another place of the same table is unchanged.
-/

namespace Sys2Proof.Machine

variable (s : State)

/-! ### Other tables -/

@[simp] theorem timer_setLease (l : LeaseId) (r : Lease) (l' : LeaseId) : (s.setLease l r).timer l' = s.timer l' := rfl
@[simp] theorem port_setLease (l : LeaseId) (r : Lease) (p' : PortId) : (s.setLease l r).port p' = s.port p' := rfl
@[simp] theorem slot_setLease (l : LeaseId) (r : Lease) (p' : PortId) (t' : StreamTag) : (s.setLease l r).slot p' t' = s.slot p' t' := rfl
@[simp] theorem holdQueue_setLease (l : LeaseId) (r : Lease) (l' : LeaseId) : (s.setLease l r).holdQueue l' = s.holdQueue l' := rfl
@[simp] theorem release_setLease (l : LeaseId) (r : Lease) (l' : LeaseId) : (s.setLease l r).release l' = s.release l' := rfl
@[simp] theorem tag_setLease (l : LeaseId) (r : Lease) (t' : TagId) : (s.setLease l r).tag t' = s.tag t' := rfl

@[simp] theorem lease_setTimer (l : LeaseId) (t : PeriodTimer) (l' : LeaseId) : (s.setTimer l t).lease l' = s.lease l' := rfl
@[simp] theorem port_setTimer (l : LeaseId) (t : PeriodTimer) (p' : PortId) : (s.setTimer l t).port p' = s.port p' := rfl
@[simp] theorem slot_setTimer (l : LeaseId) (t : PeriodTimer) (p' : PortId) (t' : StreamTag) : (s.setTimer l t).slot p' t' = s.slot p' t' := rfl
@[simp] theorem holdQueue_setTimer (l : LeaseId) (t : PeriodTimer) (l' : LeaseId) : (s.setTimer l t).holdQueue l' = s.holdQueue l' := rfl
@[simp] theorem release_setTimer (l : LeaseId) (t : PeriodTimer) (l' : LeaseId) : (s.setTimer l t).release l' = s.release l' := rfl
@[simp] theorem tag_setTimer (l : LeaseId) (t : PeriodTimer) (t' : TagId) : (s.setTimer l t).tag t' = s.tag t' := rfl

@[simp] theorem lease_setPort (p : PortId) (u : Port) (l' : LeaseId) : (s.setPort p u).lease l' = s.lease l' := rfl
@[simp] theorem timer_setPort (p : PortId) (u : Port) (l' : LeaseId) : (s.setPort p u).timer l' = s.timer l' := rfl
@[simp] theorem slot_setPort (p : PortId) (u : Port) (p' : PortId) (t' : StreamTag) : (s.setPort p u).slot p' t' = s.slot p' t' := rfl
@[simp] theorem holdQueue_setPort (p : PortId) (u : Port) (l' : LeaseId) : (s.setPort p u).holdQueue l' = s.holdQueue l' := rfl
@[simp] theorem release_setPort (p : PortId) (u : Port) (l' : LeaseId) : (s.setPort p u).release l' = s.release l' := rfl
@[simp] theorem tag_setPort (p : PortId) (u : Port) (t' : TagId) : (s.setPort p u).tag t' = s.tag t' := rfl

@[simp] theorem lease_setSlot (p : PortId) (t : StreamTag) (b : Option LeaseId) (l' : LeaseId) : (s.setSlot p t b).lease l' = s.lease l' := rfl
@[simp] theorem timer_setSlot (p : PortId) (t : StreamTag) (b : Option LeaseId) (l' : LeaseId) : (s.setSlot p t b).timer l' = s.timer l' := rfl
@[simp] theorem port_setSlot (p : PortId) (t : StreamTag) (b : Option LeaseId) (p' : PortId) : (s.setSlot p t b).port p' = s.port p' := rfl
@[simp] theorem holdQueue_setSlot (p : PortId) (t : StreamTag) (b : Option LeaseId) (l' : LeaseId) : (s.setSlot p t b).holdQueue l' = s.holdQueue l' := rfl
@[simp] theorem release_setSlot (p : PortId) (t : StreamTag) (b : Option LeaseId) (l' : LeaseId) : (s.setSlot p t b).release l' = s.release l' := rfl
@[simp] theorem tag_setSlot (p : PortId) (t : StreamTag) (b : Option LeaseId) (t' : TagId) : (s.setSlot p t b).tag t' = s.tag t' := rfl

@[simp] theorem lease_setHoldQueue (l : LeaseId) (q : List HeldEntry) (l' : LeaseId) : (s.setHoldQueue l q).lease l' = s.lease l' := rfl
@[simp] theorem timer_setHoldQueue (l : LeaseId) (q : List HeldEntry) (l' : LeaseId) : (s.setHoldQueue l q).timer l' = s.timer l' := rfl
@[simp] theorem port_setHoldQueue (l : LeaseId) (q : List HeldEntry) (p' : PortId) : (s.setHoldQueue l q).port p' = s.port p' := rfl
@[simp] theorem slot_setHoldQueue (l : LeaseId) (q : List HeldEntry) (p' : PortId) (t' : StreamTag) : (s.setHoldQueue l q).slot p' t' = s.slot p' t' := rfl
@[simp] theorem release_setHoldQueue (l : LeaseId) (q : List HeldEntry) (l' : LeaseId) : (s.setHoldQueue l q).release l' = s.release l' := rfl
@[simp] theorem tag_setHoldQueue (l : LeaseId) (q : List HeldEntry) (t' : TagId) : (s.setHoldQueue l q).tag t' = s.tag t' := rfl

@[simp] theorem lease_setRelease (l : LeaseId) (r : ReleaseState) (l' : LeaseId) : (s.setRelease l r).lease l' = s.lease l' := rfl
@[simp] theorem timer_setRelease (l : LeaseId) (r : ReleaseState) (l' : LeaseId) : (s.setRelease l r).timer l' = s.timer l' := rfl
@[simp] theorem port_setRelease (l : LeaseId) (r : ReleaseState) (p' : PortId) : (s.setRelease l r).port p' = s.port p' := rfl
@[simp] theorem slot_setRelease (l : LeaseId) (r : ReleaseState) (p' : PortId) (t' : StreamTag) : (s.setRelease l r).slot p' t' = s.slot p' t' := rfl
@[simp] theorem holdQueue_setRelease (l : LeaseId) (r : ReleaseState) (l' : LeaseId) : (s.setRelease l r).holdQueue l' = s.holdQueue l' := rfl
@[simp] theorem tag_setRelease (l : LeaseId) (r : ReleaseState) (t' : TagId) : (s.setRelease l r).tag t' = s.tag t' := rfl

@[simp] theorem lease_setTag (t : TagId) (v : Tag) (l' : LeaseId) : (s.setTag t v).lease l' = s.lease l' := rfl
@[simp] theorem timer_setTag (t : TagId) (v : Tag) (l' : LeaseId) : (s.setTag t v).timer l' = s.timer l' := rfl
@[simp] theorem port_setTag (t : TagId) (v : Tag) (p' : PortId) : (s.setTag t v).port p' = s.port p' := rfl
@[simp] theorem slot_setTag (t : TagId) (v : Tag) (p' : PortId) (t' : StreamTag) : (s.setTag t v).slot p' t' = s.slot p' t' := rfl
@[simp] theorem holdQueue_setTag (t : TagId) (v : Tag) (l' : LeaseId) : (s.setTag t v).holdQueue l' = s.holdQueue l' := rfl
@[simp] theorem release_setTag (t : TagId) (v : Tag) (l' : LeaseId) : (s.setTag t v).release l' = s.release l' := rfl

@[simp] theorem lease_setPoolFree (n : Nat) (l' : LeaseId) : (s.setPoolFree n).lease l' = s.lease l' := rfl
@[simp] theorem timer_setPoolFree (n : Nat) (l' : LeaseId) : (s.setPoolFree n).timer l' = s.timer l' := rfl
@[simp] theorem port_setPoolFree (n : Nat) (p' : PortId) : (s.setPoolFree n).port p' = s.port p' := rfl
@[simp] theorem slot_setPoolFree (n : Nat) (p' : PortId) (t' : StreamTag) : (s.setPoolFree n).slot p' t' = s.slot p' t' := rfl
@[simp] theorem holdQueue_setPoolFree (n : Nat) (l' : LeaseId) : (s.setPoolFree n).holdQueue l' = s.holdQueue l' := rfl
@[simp] theorem release_setPoolFree (n : Nat) (l' : LeaseId) : (s.setPoolFree n).release l' = s.release l' := rfl
@[simp] theorem tag_setPoolFree (n : Nat) (t' : TagId) : (s.setPoolFree n).tag t' = s.tag t' := rfl

@[simp] theorem lease_setCommitted (n : Nat) (l' : LeaseId) : (s.setCommitted n).lease l' = s.lease l' := rfl
@[simp] theorem timer_setCommitted (n : Nat) (l' : LeaseId) : (s.setCommitted n).timer l' = s.timer l' := rfl
@[simp] theorem port_setCommitted (n : Nat) (p' : PortId) : (s.setCommitted n).port p' = s.port p' := rfl
@[simp] theorem slot_setCommitted (n : Nat) (p' : PortId) (t' : StreamTag) : (s.setCommitted n).slot p' t' = s.slot p' t' := rfl
@[simp] theorem holdQueue_setCommitted (n : Nat) (l' : LeaseId) : (s.setCommitted n).holdQueue l' = s.holdQueue l' := rfl
@[simp] theorem release_setCommitted (n : Nat) (l' : LeaseId) : (s.setCommitted n).release l' = s.release l' := rfl
@[simp] theorem tag_setCommitted (n : Nat) (t' : TagId) : (s.setCommitted n).tag t' = s.tag t' := rfl

@[simp] theorem lease_setEngineState (e : EngineState) (l' : LeaseId) : (s.setEngineState e).lease l' = s.lease l' := rfl
@[simp] theorem timer_setEngineState (e : EngineState) (l' : LeaseId) : (s.setEngineState e).timer l' = s.timer l' := rfl
@[simp] theorem port_setEngineState (e : EngineState) (p' : PortId) : (s.setEngineState e).port p' = s.port p' := rfl
@[simp] theorem slot_setEngineState (e : EngineState) (p' : PortId) (t' : StreamTag) : (s.setEngineState e).slot p' t' = s.slot p' t' := rfl
@[simp] theorem holdQueue_setEngineState (e : EngineState) (l' : LeaseId) : (s.setEngineState e).holdQueue l' = s.holdQueue l' := rfl
@[simp] theorem release_setEngineState (e : EngineState) (l' : LeaseId) : (s.setEngineState e).release l' = s.release l' := rfl
@[simp] theorem tag_setEngineState (e : EngineState) (t' : TagId) : (s.setEngineState e).tag t' = s.tag t' := rfl

@[simp] theorem lease_setSource (src : Source) (l' : LeaseId) : (setSource src s).lease l' = s.lease l' := rfl
@[simp] theorem timer_setSource (src : Source) (l' : LeaseId) : (setSource src s).timer l' = s.timer l' := rfl
@[simp] theorem port_setSource (src : Source) (p' : PortId) : (setSource src s).port p' = s.port p' := rfl
@[simp] theorem slot_setSource (src : Source) (p' : PortId) (t' : StreamTag) : (setSource src s).slot p' t' = s.slot p' t' := rfl
@[simp] theorem holdQueue_setSource (src : Source) (l' : LeaseId) : (setSource src s).holdQueue l' = s.holdQueue l' := rfl
@[simp] theorem release_setSource (src : Source) (l' : LeaseId) : (setSource src s).release l' = s.release l' := rfl
@[simp] theorem tag_setSource (src : Source) (t' : TagId) : (setSource src s).tag t' = s.tag t' := rfl

@[simp] theorem lease_joinAttention (l : LeaseId) (l' : LeaseId) : (joinAttention l s).lease l' = s.lease l' := rfl
@[simp] theorem timer_joinAttention (l : LeaseId) (l' : LeaseId) : (joinAttention l s).timer l' = s.timer l' := rfl
@[simp] theorem port_joinAttention (l : LeaseId) (p' : PortId) : (joinAttention l s).port p' = s.port p' := rfl
@[simp] theorem slot_joinAttention (l : LeaseId) (p' : PortId) (t' : StreamTag) : (joinAttention l s).slot p' t' = s.slot p' t' := rfl
@[simp] theorem holdQueue_joinAttention (l : LeaseId) (l' : LeaseId) : (joinAttention l s).holdQueue l' = s.holdQueue l' := rfl
@[simp] theorem release_joinAttention (l : LeaseId) (l' : LeaseId) : (joinAttention l s).release l' = s.release l' := rfl
@[simp] theorem tag_joinAttention (l : LeaseId) (t' : TagId) : (joinAttention l s).tag t' = s.tag t' := rfl

@[simp] theorem lease_leaveAttention (l : LeaseId) (l' : LeaseId) : (leaveAttention l s).lease l' = s.lease l' := rfl
@[simp] theorem timer_leaveAttention (l : LeaseId) (l' : LeaseId) : (leaveAttention l s).timer l' = s.timer l' := rfl
@[simp] theorem port_leaveAttention (l : LeaseId) (p' : PortId) : (leaveAttention l s).port p' = s.port p' := rfl
@[simp] theorem slot_leaveAttention (l : LeaseId) (p' : PortId) (t' : StreamTag) : (leaveAttention l s).slot p' t' = s.slot p' t' := rfl
@[simp] theorem holdQueue_leaveAttention (l : LeaseId) (l' : LeaseId) : (leaveAttention l s).holdQueue l' = s.holdQueue l' := rfl
@[simp] theorem release_leaveAttention (l : LeaseId) (l' : LeaseId) : (leaveAttention l s).release l' = s.release l' := rfl
@[simp] theorem tag_leaveAttention (l : LeaseId) (t' : TagId) : (leaveAttention l s).tag t' = s.tag t' := rfl

@[simp] theorem lease_sendResponse (p : PortId) (id : Byte) (st : ClientStatus) (d : List Beat) (l' : LeaseId) : (sendResponse p id st d s).lease l' = s.lease l' := rfl
@[simp] theorem timer_sendResponse (p : PortId) (id : Byte) (st : ClientStatus) (d : List Beat) (l' : LeaseId) : (sendResponse p id st d s).timer l' = s.timer l' := rfl
@[simp] theorem port_sendResponse (p : PortId) (id : Byte) (st : ClientStatus) (d : List Beat) (p' : PortId) : (sendResponse p id st d s).port p' = s.port p' := rfl
@[simp] theorem slot_sendResponse (p : PortId) (id : Byte) (st : ClientStatus) (d : List Beat) (p' : PortId) (t' : StreamTag) : (sendResponse p id st d s).slot p' t' = s.slot p' t' := rfl
@[simp] theorem holdQueue_sendResponse (p : PortId) (id : Byte) (st : ClientStatus) (d : List Beat) (l' : LeaseId) : (sendResponse p id st d s).holdQueue l' = s.holdQueue l' := rfl
@[simp] theorem release_sendResponse (p : PortId) (id : Byte) (st : ClientStatus) (d : List Beat) (l' : LeaseId) : (sendResponse p id st d s).release l' = s.release l' := rfl
@[simp] theorem tag_sendResponse (p : PortId) (id : Byte) (st : ClientStatus) (d : List Beat) (t' : TagId) : (sendResponse p id st d s).tag t' = s.tag t' := rfl

@[simp] theorem lease_handTrigger (l' : LeaseId) : (handTrigger s).lease l' = s.lease l' := rfl
@[simp] theorem timer_handTrigger (l' : LeaseId) : (handTrigger s).timer l' = s.timer l' := rfl
@[simp] theorem slot_handTrigger (p' : PortId) (t' : StreamTag) : (handTrigger s).slot p' t' = s.slot p' t' := rfl
@[simp] theorem holdQueue_handTrigger (l' : LeaseId) : (handTrigger s).holdQueue l' = s.holdQueue l' := rfl
@[simp] theorem tag_handTrigger (t' : TagId) : (handTrigger s).tag t' = s.tag t' := rfl

/-! ### The table itself -/

theorem lease_setLease (l l' : LeaseId) (r : Lease) : (s.setLease l r).lease l' = if l = l' then r else s.lease l' := by
  simp only [State.lease, State.setLease, Vector.getElem_set, Fin.ext_iff]

@[simp] theorem lease_setLease_self (l : LeaseId) (r : Lease) : (s.setLease l r).lease l = r := by simp [lease_setLease]

theorem lease_setLease_ne {l l' : LeaseId} (h : l ≠ l') (r : Lease) : (s.setLease l r).lease l' = s.lease l' := by
  simp [lease_setLease, h]

theorem timer_setTimer (l l' : LeaseId) (t : PeriodTimer) : (s.setTimer l t).timer l' = if l = l' then t else s.timer l' := by
  simp only [State.timer, State.setTimer, Vector.getElem_set, Fin.ext_iff]

@[simp] theorem timer_setTimer_self (l : LeaseId) (t : PeriodTimer) : (s.setTimer l t).timer l = t := by simp [timer_setTimer]

theorem port_setPort (p p' : PortId) (u : Port) : (s.setPort p u).port p' = if p = p' then u else s.port p' := by
  simp only [State.port, State.setPort, Vector.getElem_set, Fin.ext_iff]

@[simp] theorem port_setPort_self (p : PortId) (u : Port) : (s.setPort p u).port p = u := by simp [port_setPort]

theorem holdQueue_setHoldQueue (l l' : LeaseId) (q : List HeldEntry) :
    (s.setHoldQueue l q).holdQueue l' = if l = l' then q else s.holdQueue l' := by
  simp only [State.holdQueue, State.setHoldQueue, Vector.getElem_set, Fin.ext_iff]

@[simp] theorem holdQueue_setHoldQueue_self (l : LeaseId) (q : List HeldEntry) : (s.setHoldQueue l q).holdQueue l = q := by
  simp [holdQueue_setHoldQueue]

theorem release_setRelease (l l' : LeaseId) (r : ReleaseState) :
    (s.setRelease l r).release l' = if l = l' then r else s.release l' := by
  simp only [State.release, State.setRelease, Vector.getElem_set, Fin.ext_iff]

@[simp] theorem release_setRelease_self (l : LeaseId) (r : ReleaseState) : (s.setRelease l r).release l = r := by
  simp [release_setRelease]

theorem tag_setTag (t t' : TagId) (v : Tag) : (s.setTag t v).tag t' = if t = t' then v else s.tag t' := by
  simp only [State.tag, State.setTag, Vector.getElem_set, Fin.ext_iff]

@[simp] theorem tag_setTag_self (t : TagId) (v : Tag) : (s.setTag t v).tag t = v := by simp [tag_setTag]

theorem slotIndex_injective {p p' : PortId} {t t' : StreamTag} : slotIndex p t = slotIndex p' t' ↔ p = p' ∧ t = t' := by
  constructor
  · intro h
    have h' : p.val * 16 + t.val = p'.val * 16 + t'.val := congrArg Fin.val h
    have := t.isLt
    have := t'.isLt
    exact ⟨Fin.ext (by omega), Fin.ext (by omega)⟩
  · rintro ⟨rfl, rfl⟩
    rfl

theorem slot_setSlot (p p' : PortId) (t t' : StreamTag) (b : Option LeaseId) :
    (s.setSlot p t b).slot p' t' = if p = p' ∧ t = t' then b else s.slot p' t' := by
  simp only [State.slot, State.setSlot, Vector.getElem_set, ← Fin.ext_iff, slotIndex_injective]

@[simp] theorem slot_setSlot_self (p : PortId) (t : StreamTag) (b : Option LeaseId) : (s.setSlot p t b).slot p t = b := by
  simp [slot_setSlot]

/-! ### Tabulated tables -/

@[simp] theorem getElem_tabulate {α : Type} {n : Nat} (f : Fin n → α) (i : Nat) (h : i < n) : (tabulate f)[i] = f ⟨i, h⟩ := by
  simp [tabulate]

@[simp] theorem port_handTrigger (p : PortId) : (handTrigger s).port p = (s.port p).hand := by
  simp [handTrigger, State.port]

@[simp] theorem release_handTrigger (l : LeaseId) : (handTrigger s).release l = (s.release l).retrigger := by
  simp [handTrigger, State.release]

@[simp] theorem engine_handTrigger : (handTrigger s).engine = { s.engine with state := s.engine.state.retrigger } := rfl

@[simp] theorem engine_setEngineState (e : EngineState) : (s.setEngineState e).engine = { s.engine with state := e } := rfl

@[simp] theorem sent_sendResponse (p : PortId) (id : Byte) (st : ClientStatus) (d : List Beat) :
    (sendResponse p id st d s).sent = s.sent ++ [{ port := p, clientId := id, status := st, data := d }] := rfl

@[simp] theorem poolFree_setPoolFree (n : Nat) : (s.setPoolFree n).poolFree = n := rfl

@[simp] theorem committed_setCommitted (n : Nat) : (s.setCommitted n).committed = n := rfl

@[simp] theorem intStatus_setSource (src : Source) : (setSource src s).intStatus = s.intStatus ||| src.mask := rfl

@[simp] theorem attention_joinAttention (l : LeaseId) : (joinAttention l s).attention = s.attention ||| attentionBit l := rfl

@[simp] theorem intStatus_joinAttention (l : LeaseId) :
    (joinAttention l s).intStatus = s.intStatus ||| Source.attention.mask := rfl

@[simp] theorem attention_leaveAttention (l : LeaseId) :
    (leaveAttention l s).attention = s.attention &&& ~~~ attentionBit l := rfl

theorem getLsbD_attentionBit (l l' : LeaseId) : (attentionBit l).getLsbD l'.val = decide (l = l') := by
  have := l.isLt
  have := l'.isLt
  simp only [attentionBit, BitVec.getLsbD_shiftLeft, BitVec.getLsbD_one, Fin.ext_iff]
  by_cases h : l.val = l'.val
  · simp [h]
  · by_cases h' : l'.val < l.val
    · simp [h, h']
    · have : l'.val - l.val ≠ 0 := by omega
      simp [h, this]

end Sys2Proof.Machine
end

