-- ==== Sys2Proof/Laws/Frames.lean ====
section
/-!
SUPPORT. What each shared operation leaves alone: one lemma per field of `State` it does not change, so that no proof unfolds its
tests.
-/

namespace Sys2Proof.Machine

variable (s : State)

/-- The refusals of a drain start are its responses in order, and nothing else. -/
theorem refuseRetired_eq (q : List HeldEntry) : refuseRetired q s = { s with sent := s.sent ++ retiredResponses q } := by
  unfold refuseRetired retiredResponses
  induction q generalizing s with
  | nil => simp
  | cons e q ih => rw [List.foldl_cons, ih]; simp [sendResponse]


/-! ### raiseReason -/

@[simp] theorem raiseReason_timers (l : LeaseId) (r : Reason) : (raiseReason l r s).timers = s.timers := by unfold raiseReason; split <;> [rfl; (split <;> rfl)]
@[simp] theorem raiseReason_timebase (l : LeaseId) (r : Reason) : (raiseReason l r s).timebase = s.timebase := by unfold raiseReason; split <;> [rfl; (split <;> rfl)]
@[simp] theorem raiseReason_capacity (l : LeaseId) (r : Reason) : (raiseReason l r s).capacity = s.capacity := by unfold raiseReason; split <;> [rfl; (split <;> rfl)]
@[simp] theorem raiseReason_committed (l : LeaseId) (r : Reason) : (raiseReason l r s).committed = s.committed := by unfold raiseReason; split <;> [rfl; (split <;> rfl)]
@[simp] theorem raiseReason_ports (l : LeaseId) (r : Reason) : (raiseReason l r s).ports = s.ports := by unfold raiseReason; split <;> [rfl; (split <;> rfl)]
@[simp] theorem raiseReason_streams (l : LeaseId) (r : Reason) : (raiseReason l r s).streams = s.streams := by unfold raiseReason; split <;> [rfl; (split <;> rfl)]
@[simp] theorem raiseReason_lastServed (l : LeaseId) (r : Reason) : (raiseReason l r s).lastServed = s.lastServed := by unfold raiseReason; split <;> [rfl; (split <;> rfl)]
@[simp] theorem raiseReason_holdQueues (l : LeaseId) (r : Reason) : (raiseReason l r s).holdQueues = s.holdQueues := by unfold raiseReason; split <;> [rfl; (split <;> rfl)]
@[simp] theorem raiseReason_releases (l : LeaseId) (r : Reason) : (raiseReason l r s).releases = s.releases := by unfold raiseReason; split <;> [rfl; (split <;> rfl)]
@[simp] theorem raiseReason_poolFree (l : LeaseId) (r : Reason) : (raiseReason l r s).poolFree = s.poolFree := by unfold raiseReason; split <;> [rfl; (split <;> rfl)]
@[simp] theorem raiseReason_gQueue (l : LeaseId) (r : Reason) : (raiseReason l r s).gQueue = s.gQueue := by unfold raiseReason; split <;> [rfl; (split <;> rfl)]
@[simp] theorem raiseReason_sQueue (l : LeaseId) (r : Reason) : (raiseReason l r s).sQueue = s.sQueue := by unfold raiseReason; split <;> [rfl; (split <;> rfl)]
@[simp] theorem raiseReason_gRun (l : LeaseId) (r : Reason) : (raiseReason l r s).gRun = s.gRun := by unfold raiseReason; split <;> [rfl; (split <;> rfl)]
@[simp] theorem raiseReason_tags (l : LeaseId) (r : Reason) : (raiseReason l r s).tags = s.tags := by unfold raiseReason; split <;> [rfl; (split <;> rfl)]
@[simp] theorem raiseReason_link (l : LeaseId) (r : Reason) : (raiseReason l r s).link = s.link := by unfold raiseReason; split <;> [rfl; (split <;> rfl)]
@[simp] theorem raiseReason_readyLevel (l : LeaseId) (r : Reason) : (raiseReason l r s).readyLevel = s.readyLevel := by unfold raiseReason; split <;> [rfl; (split <;> rfl)]
@[simp] theorem raiseReason_responseTimeout (l : LeaseId) (r : Reason) : (raiseReason l r s).responseTimeout = s.responseTimeout := by unfold raiseReason; split <;> [rfl; (split <;> rfl)]
@[simp] theorem raiseReason_engine (l : LeaseId) (r : Reason) : (raiseReason l r s).engine = s.engine := by unfold raiseReason; split <;> [rfl; (split <;> rfl)]
@[simp] theorem raiseReason_intEnable (l : LeaseId) (r : Reason) : (raiseReason l r s).intEnable = s.intEnable := by unfold raiseReason; split <;> [rfl; (split <;> rfl)]
@[simp] theorem raiseReason_sent (l : LeaseId) (r : Reason) : (raiseReason l r s).sent = s.sent := by unfold raiseReason; split <;> [rfl; (split <;> rfl)]
@[simp] theorem raiseReason_memoryOut (l : LeaseId) (r : Reason) : (raiseReason l r s).memoryOut = s.memoryOut := by unfold raiseReason; split <;> [rfl; (split <;> rfl)]
@[simp] theorem raiseReason_freeIndex (l : LeaseId) (r : Reason) : (raiseReason l r s).freeIndex = s.freeIndex := by unfold raiseReason; split <;> [rfl; (split <;> rfl)]
@[simp] theorem raiseReason_delayed (l : LeaseId) (r : Reason) : (raiseReason l r s).delayed = s.delayed := by unfold raiseReason; split <;> [rfl; (split <;> rfl)]
@[simp] theorem raiseReason_pending (l : LeaseId) (r : Reason) : (raiseReason l r s).pending = s.pending := by unfold raiseReason; split <;> [rfl; (split <;> rfl)]

/-! ### countFault -/

@[simp] theorem countFault_timers (l : LeaseId) : (countFault l s).timers = s.timers := by simp [countFault]
@[simp] theorem countFault_timebase (l : LeaseId) : (countFault l s).timebase = s.timebase := by simp [countFault]
@[simp] theorem countFault_capacity (l : LeaseId) : (countFault l s).capacity = s.capacity := by simp [countFault]
@[simp] theorem countFault_committed (l : LeaseId) : (countFault l s).committed = s.committed := by simp [countFault]
@[simp] theorem countFault_ports (l : LeaseId) : (countFault l s).ports = s.ports := by simp [countFault]
@[simp] theorem countFault_streams (l : LeaseId) : (countFault l s).streams = s.streams := by simp [countFault]
@[simp] theorem countFault_lastServed (l : LeaseId) : (countFault l s).lastServed = s.lastServed := by simp [countFault]
@[simp] theorem countFault_holdQueues (l : LeaseId) : (countFault l s).holdQueues = s.holdQueues := by simp [countFault]
@[simp] theorem countFault_releases (l : LeaseId) : (countFault l s).releases = s.releases := by simp [countFault]
@[simp] theorem countFault_poolFree (l : LeaseId) : (countFault l s).poolFree = s.poolFree := by simp [countFault]
@[simp] theorem countFault_gQueue (l : LeaseId) : (countFault l s).gQueue = s.gQueue := by simp [countFault]
@[simp] theorem countFault_sQueue (l : LeaseId) : (countFault l s).sQueue = s.sQueue := by simp [countFault]
@[simp] theorem countFault_gRun (l : LeaseId) : (countFault l s).gRun = s.gRun := by simp [countFault]
@[simp] theorem countFault_tags (l : LeaseId) : (countFault l s).tags = s.tags := by simp [countFault]
@[simp] theorem countFault_link (l : LeaseId) : (countFault l s).link = s.link := by simp [countFault]
@[simp] theorem countFault_readyLevel (l : LeaseId) : (countFault l s).readyLevel = s.readyLevel := by simp [countFault]
@[simp] theorem countFault_responseTimeout (l : LeaseId) : (countFault l s).responseTimeout = s.responseTimeout := by simp [countFault]
@[simp] theorem countFault_engine (l : LeaseId) : (countFault l s).engine = s.engine := by simp [countFault]
@[simp] theorem countFault_intEnable (l : LeaseId) : (countFault l s).intEnable = s.intEnable := by simp [countFault]
@[simp] theorem countFault_sent (l : LeaseId) : (countFault l s).sent = s.sent := by simp [countFault]
@[simp] theorem countFault_memoryOut (l : LeaseId) : (countFault l s).memoryOut = s.memoryOut := by simp [countFault]
@[simp] theorem countFault_freeIndex (l : LeaseId) : (countFault l s).freeIndex = s.freeIndex := by simp [countFault]
@[simp] theorem countFault_delayed (l : LeaseId) : (countFault l s).delayed = s.delayed := by simp [countFault]
@[simp] theorem countFault_pending (l : LeaseId) : (countFault l s).pending = s.pending := by simp [countFault]

/-! ### drainCompletion -/

@[simp] theorem drainCompletion_timebase (l : LeaseId) : (drainCompletion l s).timebase = s.timebase := by simp [drainCompletion]
@[simp] theorem drainCompletion_capacity (l : LeaseId) : (drainCompletion l s).capacity = s.capacity := by simp [drainCompletion]
@[simp] theorem drainCompletion_committed (l : LeaseId) : (drainCompletion l s).committed = s.committed := by simp [drainCompletion]
@[simp] theorem drainCompletion_ports (l : LeaseId) : (drainCompletion l s).ports = s.ports := by simp [drainCompletion]
@[simp] theorem drainCompletion_streams (l : LeaseId) : (drainCompletion l s).streams = s.streams := by simp [drainCompletion]
@[simp] theorem drainCompletion_lastServed (l : LeaseId) : (drainCompletion l s).lastServed = s.lastServed := by simp [drainCompletion]
@[simp] theorem drainCompletion_holdQueues (l : LeaseId) : (drainCompletion l s).holdQueues = s.holdQueues := by simp [drainCompletion]
@[simp] theorem drainCompletion_releases (l : LeaseId) : (drainCompletion l s).releases = s.releases := by simp [drainCompletion]
@[simp] theorem drainCompletion_poolFree (l : LeaseId) : (drainCompletion l s).poolFree = s.poolFree := by simp [drainCompletion]
@[simp] theorem drainCompletion_gQueue (l : LeaseId) : (drainCompletion l s).gQueue = s.gQueue := by simp [drainCompletion]
@[simp] theorem drainCompletion_sQueue (l : LeaseId) : (drainCompletion l s).sQueue = s.sQueue := by simp [drainCompletion]
@[simp] theorem drainCompletion_gRun (l : LeaseId) : (drainCompletion l s).gRun = s.gRun := by simp [drainCompletion]
@[simp] theorem drainCompletion_tags (l : LeaseId) : (drainCompletion l s).tags = s.tags := by simp [drainCompletion]
@[simp] theorem drainCompletion_link (l : LeaseId) : (drainCompletion l s).link = s.link := by simp [drainCompletion]
@[simp] theorem drainCompletion_readyLevel (l : LeaseId) : (drainCompletion l s).readyLevel = s.readyLevel := by simp [drainCompletion]
@[simp] theorem drainCompletion_responseTimeout (l : LeaseId) : (drainCompletion l s).responseTimeout = s.responseTimeout := by simp [drainCompletion]
@[simp] theorem drainCompletion_engine (l : LeaseId) : (drainCompletion l s).engine = s.engine := by simp [drainCompletion]
@[simp] theorem drainCompletion_intEnable (l : LeaseId) : (drainCompletion l s).intEnable = s.intEnable := by simp [drainCompletion]
@[simp] theorem drainCompletion_sent (l : LeaseId) : (drainCompletion l s).sent = s.sent := by simp [drainCompletion]
@[simp] theorem drainCompletion_memoryOut (l : LeaseId) : (drainCompletion l s).memoryOut = s.memoryOut := by simp [drainCompletion]
@[simp] theorem drainCompletion_freeIndex (l : LeaseId) : (drainCompletion l s).freeIndex = s.freeIndex := by simp [drainCompletion]
@[simp] theorem drainCompletion_delayed (l : LeaseId) : (drainCompletion l s).delayed = s.delayed := by simp [drainCompletion]
@[simp] theorem drainCompletion_pending (l : LeaseId) : (drainCompletion l s).pending = s.pending := by simp [drainCompletion]

/-! ### completeIfDrained -/

@[simp] theorem completeIfDrained_timebase (l : LeaseId) : (completeIfDrained l s).timebase = s.timebase := by unfold completeIfDrained; split <;> simp
@[simp] theorem completeIfDrained_capacity (l : LeaseId) : (completeIfDrained l s).capacity = s.capacity := by unfold completeIfDrained; split <;> simp
@[simp] theorem completeIfDrained_committed (l : LeaseId) : (completeIfDrained l s).committed = s.committed := by unfold completeIfDrained; split <;> simp
@[simp] theorem completeIfDrained_ports (l : LeaseId) : (completeIfDrained l s).ports = s.ports := by unfold completeIfDrained; split <;> simp
@[simp] theorem completeIfDrained_streams (l : LeaseId) : (completeIfDrained l s).streams = s.streams := by unfold completeIfDrained; split <;> simp
@[simp] theorem completeIfDrained_lastServed (l : LeaseId) : (completeIfDrained l s).lastServed = s.lastServed := by unfold completeIfDrained; split <;> simp
@[simp] theorem completeIfDrained_holdQueues (l : LeaseId) : (completeIfDrained l s).holdQueues = s.holdQueues := by unfold completeIfDrained; split <;> simp
@[simp] theorem completeIfDrained_releases (l : LeaseId) : (completeIfDrained l s).releases = s.releases := by unfold completeIfDrained; split <;> simp
@[simp] theorem completeIfDrained_poolFree (l : LeaseId) : (completeIfDrained l s).poolFree = s.poolFree := by unfold completeIfDrained; split <;> simp
@[simp] theorem completeIfDrained_gQueue (l : LeaseId) : (completeIfDrained l s).gQueue = s.gQueue := by unfold completeIfDrained; split <;> simp
@[simp] theorem completeIfDrained_sQueue (l : LeaseId) : (completeIfDrained l s).sQueue = s.sQueue := by unfold completeIfDrained; split <;> simp
@[simp] theorem completeIfDrained_gRun (l : LeaseId) : (completeIfDrained l s).gRun = s.gRun := by unfold completeIfDrained; split <;> simp
@[simp] theorem completeIfDrained_tags (l : LeaseId) : (completeIfDrained l s).tags = s.tags := by unfold completeIfDrained; split <;> simp
@[simp] theorem completeIfDrained_link (l : LeaseId) : (completeIfDrained l s).link = s.link := by unfold completeIfDrained; split <;> simp
@[simp] theorem completeIfDrained_readyLevel (l : LeaseId) : (completeIfDrained l s).readyLevel = s.readyLevel := by unfold completeIfDrained; split <;> simp
@[simp] theorem completeIfDrained_responseTimeout (l : LeaseId) : (completeIfDrained l s).responseTimeout = s.responseTimeout := by unfold completeIfDrained; split <;> simp
@[simp] theorem completeIfDrained_engine (l : LeaseId) : (completeIfDrained l s).engine = s.engine := by unfold completeIfDrained; split <;> simp
@[simp] theorem completeIfDrained_intEnable (l : LeaseId) : (completeIfDrained l s).intEnable = s.intEnable := by unfold completeIfDrained; split <;> simp
@[simp] theorem completeIfDrained_sent (l : LeaseId) : (completeIfDrained l s).sent = s.sent := by unfold completeIfDrained; split <;> simp
@[simp] theorem completeIfDrained_memoryOut (l : LeaseId) : (completeIfDrained l s).memoryOut = s.memoryOut := by unfold completeIfDrained; split <;> simp
@[simp] theorem completeIfDrained_freeIndex (l : LeaseId) : (completeIfDrained l s).freeIndex = s.freeIndex := by unfold completeIfDrained; split <;> simp
@[simp] theorem completeIfDrained_delayed (l : LeaseId) : (completeIfDrained l s).delayed = s.delayed := by unfold completeIfDrained; split <;> simp
@[simp] theorem completeIfDrained_pending (l : LeaseId) : (completeIfDrained l s).pending = s.pending := by unfold completeIfDrained; split <;> simp

/-! ### fallOutstanding -/

@[simp] theorem fallOutstanding_timebase (l : LeaseId) : (fallOutstanding l s).timebase = s.timebase := by unfold fallOutstanding; split <;> simp
@[simp] theorem fallOutstanding_capacity (l : LeaseId) : (fallOutstanding l s).capacity = s.capacity := by unfold fallOutstanding; split <;> simp
@[simp] theorem fallOutstanding_committed (l : LeaseId) : (fallOutstanding l s).committed = s.committed := by unfold fallOutstanding; split <;> simp
@[simp] theorem fallOutstanding_ports (l : LeaseId) : (fallOutstanding l s).ports = s.ports := by unfold fallOutstanding; split <;> simp
@[simp] theorem fallOutstanding_streams (l : LeaseId) : (fallOutstanding l s).streams = s.streams := by unfold fallOutstanding; split <;> simp
@[simp] theorem fallOutstanding_lastServed (l : LeaseId) : (fallOutstanding l s).lastServed = s.lastServed := by unfold fallOutstanding; split <;> simp
@[simp] theorem fallOutstanding_holdQueues (l : LeaseId) : (fallOutstanding l s).holdQueues = s.holdQueues := by unfold fallOutstanding; split <;> simp
@[simp] theorem fallOutstanding_releases (l : LeaseId) : (fallOutstanding l s).releases = s.releases := by unfold fallOutstanding; split <;> simp
@[simp] theorem fallOutstanding_poolFree (l : LeaseId) : (fallOutstanding l s).poolFree = s.poolFree := by unfold fallOutstanding; split <;> simp
@[simp] theorem fallOutstanding_gQueue (l : LeaseId) : (fallOutstanding l s).gQueue = s.gQueue := by unfold fallOutstanding; split <;> simp
@[simp] theorem fallOutstanding_sQueue (l : LeaseId) : (fallOutstanding l s).sQueue = s.sQueue := by unfold fallOutstanding; split <;> simp
@[simp] theorem fallOutstanding_gRun (l : LeaseId) : (fallOutstanding l s).gRun = s.gRun := by unfold fallOutstanding; split <;> simp
@[simp] theorem fallOutstanding_tags (l : LeaseId) : (fallOutstanding l s).tags = s.tags := by unfold fallOutstanding; split <;> simp
@[simp] theorem fallOutstanding_link (l : LeaseId) : (fallOutstanding l s).link = s.link := by unfold fallOutstanding; split <;> simp
@[simp] theorem fallOutstanding_readyLevel (l : LeaseId) : (fallOutstanding l s).readyLevel = s.readyLevel := by unfold fallOutstanding; split <;> simp
@[simp] theorem fallOutstanding_responseTimeout (l : LeaseId) : (fallOutstanding l s).responseTimeout = s.responseTimeout := by unfold fallOutstanding; split <;> simp
@[simp] theorem fallOutstanding_engine (l : LeaseId) : (fallOutstanding l s).engine = s.engine := by unfold fallOutstanding; split <;> simp
@[simp] theorem fallOutstanding_intEnable (l : LeaseId) : (fallOutstanding l s).intEnable = s.intEnable := by unfold fallOutstanding; split <;> simp
@[simp] theorem fallOutstanding_sent (l : LeaseId) : (fallOutstanding l s).sent = s.sent := by unfold fallOutstanding; split <;> simp
@[simp] theorem fallOutstanding_memoryOut (l : LeaseId) : (fallOutstanding l s).memoryOut = s.memoryOut := by unfold fallOutstanding; split <;> simp
@[simp] theorem fallOutstanding_freeIndex (l : LeaseId) : (fallOutstanding l s).freeIndex = s.freeIndex := by unfold fallOutstanding; split <;> simp
@[simp] theorem fallOutstanding_delayed (l : LeaseId) : (fallOutstanding l s).delayed = s.delayed := by unfold fallOutstanding; split <;> simp
@[simp] theorem fallOutstanding_pending (l : LeaseId) : (fallOutstanding l s).pending = s.pending := by unfold fallOutstanding; split <;> simp

/-! ### unbindAll -/

@[simp] theorem unbindAll_timers (l : LeaseId) : (unbindAll l s).timers = s.timers := rfl
@[simp] theorem unbindAll_timebase (l : LeaseId) : (unbindAll l s).timebase = s.timebase := rfl
@[simp] theorem unbindAll_capacity (l : LeaseId) : (unbindAll l s).capacity = s.capacity := rfl
@[simp] theorem unbindAll_committed (l : LeaseId) : (unbindAll l s).committed = s.committed := rfl
@[simp] theorem unbindAll_ports (l : LeaseId) : (unbindAll l s).ports = s.ports := rfl
@[simp] theorem unbindAll_lastServed (l : LeaseId) : (unbindAll l s).lastServed = s.lastServed := rfl
@[simp] theorem unbindAll_holdQueues (l : LeaseId) : (unbindAll l s).holdQueues = s.holdQueues := rfl
@[simp] theorem unbindAll_releases (l : LeaseId) : (unbindAll l s).releases = s.releases := rfl
@[simp] theorem unbindAll_poolFree (l : LeaseId) : (unbindAll l s).poolFree = s.poolFree := rfl
@[simp] theorem unbindAll_gQueue (l : LeaseId) : (unbindAll l s).gQueue = s.gQueue := rfl
@[simp] theorem unbindAll_sQueue (l : LeaseId) : (unbindAll l s).sQueue = s.sQueue := rfl
@[simp] theorem unbindAll_gRun (l : LeaseId) : (unbindAll l s).gRun = s.gRun := rfl
@[simp] theorem unbindAll_tags (l : LeaseId) : (unbindAll l s).tags = s.tags := rfl
@[simp] theorem unbindAll_link (l : LeaseId) : (unbindAll l s).link = s.link := rfl
@[simp] theorem unbindAll_readyLevel (l : LeaseId) : (unbindAll l s).readyLevel = s.readyLevel := rfl
@[simp] theorem unbindAll_responseTimeout (l : LeaseId) : (unbindAll l s).responseTimeout = s.responseTimeout := rfl
@[simp] theorem unbindAll_engine (l : LeaseId) : (unbindAll l s).engine = s.engine := rfl
@[simp] theorem unbindAll_attention (l : LeaseId) : (unbindAll l s).attention = s.attention := rfl
@[simp] theorem unbindAll_intStatus (l : LeaseId) : (unbindAll l s).intStatus = s.intStatus := rfl
@[simp] theorem unbindAll_intEnable (l : LeaseId) : (unbindAll l s).intEnable = s.intEnable := rfl
@[simp] theorem unbindAll_sent (l : LeaseId) : (unbindAll l s).sent = s.sent := rfl
@[simp] theorem unbindAll_memoryOut (l : LeaseId) : (unbindAll l s).memoryOut = s.memoryOut := rfl
@[simp] theorem unbindAll_freeIndex (l : LeaseId) : (unbindAll l s).freeIndex = s.freeIndex := rfl
@[simp] theorem unbindAll_delayed (l : LeaseId) : (unbindAll l s).delayed = s.delayed := rfl
@[simp] theorem unbindAll_pending (l : LeaseId) : (unbindAll l s).pending = s.pending := rfl

/-! ### refuseRetired -/

@[simp] theorem refuseRetired_leases (q : List HeldEntry) : (refuseRetired q s).leases = s.leases := by rw [refuseRetired_eq]
@[simp] theorem refuseRetired_timers (q : List HeldEntry) : (refuseRetired q s).timers = s.timers := by rw [refuseRetired_eq]
@[simp] theorem refuseRetired_timebase (q : List HeldEntry) : (refuseRetired q s).timebase = s.timebase := by rw [refuseRetired_eq]
@[simp] theorem refuseRetired_capacity (q : List HeldEntry) : (refuseRetired q s).capacity = s.capacity := by rw [refuseRetired_eq]
@[simp] theorem refuseRetired_committed (q : List HeldEntry) : (refuseRetired q s).committed = s.committed := by rw [refuseRetired_eq]
@[simp] theorem refuseRetired_ports (q : List HeldEntry) : (refuseRetired q s).ports = s.ports := by rw [refuseRetired_eq]
@[simp] theorem refuseRetired_streams (q : List HeldEntry) : (refuseRetired q s).streams = s.streams := by rw [refuseRetired_eq]
@[simp] theorem refuseRetired_lastServed (q : List HeldEntry) : (refuseRetired q s).lastServed = s.lastServed := by rw [refuseRetired_eq]
@[simp] theorem refuseRetired_holdQueues (q : List HeldEntry) : (refuseRetired q s).holdQueues = s.holdQueues := by rw [refuseRetired_eq]
@[simp] theorem refuseRetired_releases (q : List HeldEntry) : (refuseRetired q s).releases = s.releases := by rw [refuseRetired_eq]
@[simp] theorem refuseRetired_poolFree (q : List HeldEntry) : (refuseRetired q s).poolFree = s.poolFree := by rw [refuseRetired_eq]
@[simp] theorem refuseRetired_gQueue (q : List HeldEntry) : (refuseRetired q s).gQueue = s.gQueue := by rw [refuseRetired_eq]
@[simp] theorem refuseRetired_sQueue (q : List HeldEntry) : (refuseRetired q s).sQueue = s.sQueue := by rw [refuseRetired_eq]
@[simp] theorem refuseRetired_gRun (q : List HeldEntry) : (refuseRetired q s).gRun = s.gRun := by rw [refuseRetired_eq]
@[simp] theorem refuseRetired_tags (q : List HeldEntry) : (refuseRetired q s).tags = s.tags := by rw [refuseRetired_eq]
@[simp] theorem refuseRetired_link (q : List HeldEntry) : (refuseRetired q s).link = s.link := by rw [refuseRetired_eq]
@[simp] theorem refuseRetired_readyLevel (q : List HeldEntry) : (refuseRetired q s).readyLevel = s.readyLevel := by rw [refuseRetired_eq]
@[simp] theorem refuseRetired_responseTimeout (q : List HeldEntry) : (refuseRetired q s).responseTimeout = s.responseTimeout := by rw [refuseRetired_eq]
@[simp] theorem refuseRetired_engine (q : List HeldEntry) : (refuseRetired q s).engine = s.engine := by rw [refuseRetired_eq]
@[simp] theorem refuseRetired_attention (q : List HeldEntry) : (refuseRetired q s).attention = s.attention := by rw [refuseRetired_eq]
@[simp] theorem refuseRetired_intStatus (q : List HeldEntry) : (refuseRetired q s).intStatus = s.intStatus := by rw [refuseRetired_eq]
@[simp] theorem refuseRetired_intEnable (q : List HeldEntry) : (refuseRetired q s).intEnable = s.intEnable := by rw [refuseRetired_eq]
@[simp] theorem refuseRetired_memoryOut (q : List HeldEntry) : (refuseRetired q s).memoryOut = s.memoryOut := by rw [refuseRetired_eq]
@[simp] theorem refuseRetired_freeIndex (q : List HeldEntry) : (refuseRetired q s).freeIndex = s.freeIndex := by rw [refuseRetired_eq]
@[simp] theorem refuseRetired_delayed (q : List HeldEntry) : (refuseRetired q s).delayed = s.delayed := by rw [refuseRetired_eq]
@[simp] theorem refuseRetired_pending (q : List HeldEntry) : (refuseRetired q s).pending = s.pending := by rw [refuseRetired_eq]

/-! ### refuseHeld -/

@[simp] theorem refuseHeld_timers (l : LeaseId) : (refuseHeld l s).timers = s.timers := by simp [refuseHeld]
@[simp] theorem refuseHeld_timebase (l : LeaseId) : (refuseHeld l s).timebase = s.timebase := by simp [refuseHeld]
@[simp] theorem refuseHeld_capacity (l : LeaseId) : (refuseHeld l s).capacity = s.capacity := by simp [refuseHeld]
@[simp] theorem refuseHeld_committed (l : LeaseId) : (refuseHeld l s).committed = s.committed := by simp [refuseHeld]
@[simp] theorem refuseHeld_ports (l : LeaseId) : (refuseHeld l s).ports = s.ports := by simp [refuseHeld]
@[simp] theorem refuseHeld_streams (l : LeaseId) : (refuseHeld l s).streams = s.streams := by simp [refuseHeld]
@[simp] theorem refuseHeld_lastServed (l : LeaseId) : (refuseHeld l s).lastServed = s.lastServed := by simp [refuseHeld]
@[simp] theorem refuseHeld_gQueue (l : LeaseId) : (refuseHeld l s).gQueue = s.gQueue := by simp [refuseHeld]
@[simp] theorem refuseHeld_sQueue (l : LeaseId) : (refuseHeld l s).sQueue = s.sQueue := by simp [refuseHeld]
@[simp] theorem refuseHeld_gRun (l : LeaseId) : (refuseHeld l s).gRun = s.gRun := by simp [refuseHeld]
@[simp] theorem refuseHeld_tags (l : LeaseId) : (refuseHeld l s).tags = s.tags := by simp [refuseHeld]
@[simp] theorem refuseHeld_link (l : LeaseId) : (refuseHeld l s).link = s.link := by simp [refuseHeld]
@[simp] theorem refuseHeld_readyLevel (l : LeaseId) : (refuseHeld l s).readyLevel = s.readyLevel := by simp [refuseHeld]
@[simp] theorem refuseHeld_responseTimeout (l : LeaseId) : (refuseHeld l s).responseTimeout = s.responseTimeout := by simp [refuseHeld]
@[simp] theorem refuseHeld_engine (l : LeaseId) : (refuseHeld l s).engine = s.engine := by simp [refuseHeld]
@[simp] theorem refuseHeld_attention (l : LeaseId) : (refuseHeld l s).attention = s.attention := by simp [refuseHeld]
@[simp] theorem refuseHeld_intStatus (l : LeaseId) : (refuseHeld l s).intStatus = s.intStatus := by simp [refuseHeld]
@[simp] theorem refuseHeld_intEnable (l : LeaseId) : (refuseHeld l s).intEnable = s.intEnable := by simp [refuseHeld]
@[simp] theorem refuseHeld_memoryOut (l : LeaseId) : (refuseHeld l s).memoryOut = s.memoryOut := by simp [refuseHeld]
@[simp] theorem refuseHeld_freeIndex (l : LeaseId) : (refuseHeld l s).freeIndex = s.freeIndex := by simp [refuseHeld]
@[simp] theorem refuseHeld_delayed (l : LeaseId) : (refuseHeld l s).delayed = s.delayed := by simp [refuseHeld]
@[simp] theorem refuseHeld_pending (l : LeaseId) : (refuseHeld l s).pending = s.pending := by simp [refuseHeld]

/-! ### releaseCommitment -/

@[simp] theorem releaseCommitment_leases (l : LeaseId) : (releaseCommitment l s).leases = s.leases := by unfold releaseCommitment; split <;> rfl
@[simp] theorem releaseCommitment_timers (l : LeaseId) : (releaseCommitment l s).timers = s.timers := by unfold releaseCommitment; split <;> rfl
@[simp] theorem releaseCommitment_timebase (l : LeaseId) : (releaseCommitment l s).timebase = s.timebase := by unfold releaseCommitment; split <;> rfl
@[simp] theorem releaseCommitment_capacity (l : LeaseId) : (releaseCommitment l s).capacity = s.capacity := by unfold releaseCommitment; split <;> rfl
@[simp] theorem releaseCommitment_ports (l : LeaseId) : (releaseCommitment l s).ports = s.ports := by unfold releaseCommitment; split <;> rfl
@[simp] theorem releaseCommitment_streams (l : LeaseId) : (releaseCommitment l s).streams = s.streams := by unfold releaseCommitment; split <;> rfl
@[simp] theorem releaseCommitment_lastServed (l : LeaseId) : (releaseCommitment l s).lastServed = s.lastServed := by unfold releaseCommitment; split <;> rfl
@[simp] theorem releaseCommitment_holdQueues (l : LeaseId) : (releaseCommitment l s).holdQueues = s.holdQueues := by unfold releaseCommitment; split <;> rfl
@[simp] theorem releaseCommitment_releases (l : LeaseId) : (releaseCommitment l s).releases = s.releases := by unfold releaseCommitment; split <;> rfl
@[simp] theorem releaseCommitment_poolFree (l : LeaseId) : (releaseCommitment l s).poolFree = s.poolFree := by unfold releaseCommitment; split <;> rfl
@[simp] theorem releaseCommitment_gQueue (l : LeaseId) : (releaseCommitment l s).gQueue = s.gQueue := by unfold releaseCommitment; split <;> rfl
@[simp] theorem releaseCommitment_sQueue (l : LeaseId) : (releaseCommitment l s).sQueue = s.sQueue := by unfold releaseCommitment; split <;> rfl
@[simp] theorem releaseCommitment_gRun (l : LeaseId) : (releaseCommitment l s).gRun = s.gRun := by unfold releaseCommitment; split <;> rfl
@[simp] theorem releaseCommitment_tags (l : LeaseId) : (releaseCommitment l s).tags = s.tags := by unfold releaseCommitment; split <;> rfl
@[simp] theorem releaseCommitment_link (l : LeaseId) : (releaseCommitment l s).link = s.link := by unfold releaseCommitment; split <;> rfl
@[simp] theorem releaseCommitment_readyLevel (l : LeaseId) : (releaseCommitment l s).readyLevel = s.readyLevel := by unfold releaseCommitment; split <;> rfl
@[simp] theorem releaseCommitment_responseTimeout (l : LeaseId) : (releaseCommitment l s).responseTimeout = s.responseTimeout := by unfold releaseCommitment; split <;> rfl
@[simp] theorem releaseCommitment_engine (l : LeaseId) : (releaseCommitment l s).engine = s.engine := by unfold releaseCommitment; split <;> rfl
@[simp] theorem releaseCommitment_attention (l : LeaseId) : (releaseCommitment l s).attention = s.attention := by unfold releaseCommitment; split <;> rfl
@[simp] theorem releaseCommitment_intStatus (l : LeaseId) : (releaseCommitment l s).intStatus = s.intStatus := by unfold releaseCommitment; split <;> rfl
@[simp] theorem releaseCommitment_intEnable (l : LeaseId) : (releaseCommitment l s).intEnable = s.intEnable := by unfold releaseCommitment; split <;> rfl
@[simp] theorem releaseCommitment_sent (l : LeaseId) : (releaseCommitment l s).sent = s.sent := by unfold releaseCommitment; split <;> rfl
@[simp] theorem releaseCommitment_memoryOut (l : LeaseId) : (releaseCommitment l s).memoryOut = s.memoryOut := by unfold releaseCommitment; split <;> rfl
@[simp] theorem releaseCommitment_freeIndex (l : LeaseId) : (releaseCommitment l s).freeIndex = s.freeIndex := by unfold releaseCommitment; split <;> rfl
@[simp] theorem releaseCommitment_delayed (l : LeaseId) : (releaseCommitment l s).delayed = s.delayed := by unfold releaseCommitment; split <;> rfl
@[simp] theorem releaseCommitment_pending (l : LeaseId) : (releaseCommitment l s).pending = s.pending := by unfold releaseCommitment; split <;> rfl

/-! ### handTriggerIf -/

@[simp] theorem handTriggerIf_leases (b : Bool) : (handTriggerIf b s).leases = s.leases := by unfold handTriggerIf; split <;> rfl
@[simp] theorem handTriggerIf_timers (b : Bool) : (handTriggerIf b s).timers = s.timers := by unfold handTriggerIf; split <;> rfl
@[simp] theorem handTriggerIf_timebase (b : Bool) : (handTriggerIf b s).timebase = s.timebase := by unfold handTriggerIf; split <;> rfl
@[simp] theorem handTriggerIf_capacity (b : Bool) : (handTriggerIf b s).capacity = s.capacity := by unfold handTriggerIf; split <;> rfl
@[simp] theorem handTriggerIf_committed (b : Bool) : (handTriggerIf b s).committed = s.committed := by unfold handTriggerIf; split <;> rfl
@[simp] theorem handTriggerIf_streams (b : Bool) : (handTriggerIf b s).streams = s.streams := by unfold handTriggerIf; split <;> rfl
@[simp] theorem handTriggerIf_lastServed (b : Bool) : (handTriggerIf b s).lastServed = s.lastServed := by unfold handTriggerIf; split <;> rfl
@[simp] theorem handTriggerIf_holdQueues (b : Bool) : (handTriggerIf b s).holdQueues = s.holdQueues := by unfold handTriggerIf; split <;> rfl
@[simp] theorem handTriggerIf_poolFree (b : Bool) : (handTriggerIf b s).poolFree = s.poolFree := by unfold handTriggerIf; split <;> rfl
@[simp] theorem handTriggerIf_gQueue (b : Bool) : (handTriggerIf b s).gQueue = s.gQueue := by unfold handTriggerIf; split <;> rfl
@[simp] theorem handTriggerIf_sQueue (b : Bool) : (handTriggerIf b s).sQueue = s.sQueue := by unfold handTriggerIf; split <;> rfl
@[simp] theorem handTriggerIf_gRun (b : Bool) : (handTriggerIf b s).gRun = s.gRun := by unfold handTriggerIf; split <;> rfl
@[simp] theorem handTriggerIf_tags (b : Bool) : (handTriggerIf b s).tags = s.tags := by unfold handTriggerIf; split <;> rfl
@[simp] theorem handTriggerIf_link (b : Bool) : (handTriggerIf b s).link = s.link := by unfold handTriggerIf; split <;> rfl
@[simp] theorem handTriggerIf_readyLevel (b : Bool) : (handTriggerIf b s).readyLevel = s.readyLevel := by unfold handTriggerIf; split <;> rfl
@[simp] theorem handTriggerIf_responseTimeout (b : Bool) : (handTriggerIf b s).responseTimeout = s.responseTimeout := by unfold handTriggerIf; split <;> rfl
@[simp] theorem handTriggerIf_attention (b : Bool) : (handTriggerIf b s).attention = s.attention := by unfold handTriggerIf; split <;> rfl
@[simp] theorem handTriggerIf_intStatus (b : Bool) : (handTriggerIf b s).intStatus = s.intStatus := by unfold handTriggerIf; split <;> rfl
@[simp] theorem handTriggerIf_intEnable (b : Bool) : (handTriggerIf b s).intEnable = s.intEnable := by unfold handTriggerIf; split <;> rfl
@[simp] theorem handTriggerIf_sent (b : Bool) : (handTriggerIf b s).sent = s.sent := by unfold handTriggerIf; split <;> rfl
@[simp] theorem handTriggerIf_memoryOut (b : Bool) : (handTriggerIf b s).memoryOut = s.memoryOut := by unfold handTriggerIf; split <;> rfl
@[simp] theorem handTriggerIf_freeIndex (b : Bool) : (handTriggerIf b s).freeIndex = s.freeIndex := by unfold handTriggerIf; split <;> rfl
@[simp] theorem handTriggerIf_delayed (b : Bool) : (handTriggerIf b s).delayed = s.delayed := by unfold handTriggerIf; split <;> rfl
@[simp] theorem handTriggerIf_pending (b : Bool) : (handTriggerIf b s).pending = s.pending := by unfold handTriggerIf; split <;> rfl

/-! ### drainStart -/

@[simp] theorem drainStart_timebase (l : LeaseId) (c : DrainCause) : (drainStart l c s).timebase = s.timebase := by cases c <;> simp [drainStart]
@[simp] theorem drainStart_capacity (l : LeaseId) (c : DrainCause) : (drainStart l c s).capacity = s.capacity := by cases c <;> simp [drainStart]
@[simp] theorem drainStart_lastServed (l : LeaseId) (c : DrainCause) : (drainStart l c s).lastServed = s.lastServed := by cases c <;> simp [drainStart]
@[simp] theorem drainStart_gQueue (l : LeaseId) (c : DrainCause) : (drainStart l c s).gQueue = s.gQueue := by cases c <;> simp [drainStart]
@[simp] theorem drainStart_sQueue (l : LeaseId) (c : DrainCause) : (drainStart l c s).sQueue = s.sQueue := by cases c <;> simp [drainStart]
@[simp] theorem drainStart_gRun (l : LeaseId) (c : DrainCause) : (drainStart l c s).gRun = s.gRun := by cases c <;> simp [drainStart]
@[simp] theorem drainStart_tags (l : LeaseId) (c : DrainCause) : (drainStart l c s).tags = s.tags := by cases c <;> simp [drainStart]
@[simp] theorem drainStart_link (l : LeaseId) (c : DrainCause) : (drainStart l c s).link = s.link := by cases c <;> simp [drainStart]
@[simp] theorem drainStart_readyLevel (l : LeaseId) (c : DrainCause) : (drainStart l c s).readyLevel = s.readyLevel := by cases c <;> simp [drainStart]
@[simp] theorem drainStart_responseTimeout (l : LeaseId) (c : DrainCause) : (drainStart l c s).responseTimeout = s.responseTimeout := by cases c <;> simp [drainStart]
@[simp] theorem drainStart_intEnable (l : LeaseId) (c : DrainCause) : (drainStart l c s).intEnable = s.intEnable := by cases c <;> simp [drainStart]
@[simp] theorem drainStart_memoryOut (l : LeaseId) (c : DrainCause) : (drainStart l c s).memoryOut = s.memoryOut := by cases c <;> simp [drainStart]
@[simp] theorem drainStart_freeIndex (l : LeaseId) (c : DrainCause) : (drainStart l c s).freeIndex = s.freeIndex := by cases c <;> simp [drainStart]
@[simp] theorem drainStart_delayed (l : LeaseId) (c : DrainCause) : (drainStart l c s).delayed = s.delayed := by cases c <;> simp [drainStart]
@[simp] theorem drainStart_pending (l : LeaseId) (c : DrainCause) : (drainStart l c s).pending = s.pending := by cases c <;> simp [drainStart]

/-! ### takeTriggers -/

@[simp] theorem takeTriggers_leases : (takeTriggers s).leases = s.leases := rfl
@[simp] theorem takeTriggers_timers : (takeTriggers s).timers = s.timers := rfl
@[simp] theorem takeTriggers_timebase : (takeTriggers s).timebase = s.timebase := rfl
@[simp] theorem takeTriggers_capacity : (takeTriggers s).capacity = s.capacity := rfl
@[simp] theorem takeTriggers_committed : (takeTriggers s).committed = s.committed := rfl
@[simp] theorem takeTriggers_streams : (takeTriggers s).streams = s.streams := rfl
@[simp] theorem takeTriggers_lastServed : (takeTriggers s).lastServed = s.lastServed := rfl
@[simp] theorem takeTriggers_holdQueues : (takeTriggers s).holdQueues = s.holdQueues := rfl
@[simp] theorem takeTriggers_releases : (takeTriggers s).releases = s.releases := rfl
@[simp] theorem takeTriggers_poolFree : (takeTriggers s).poolFree = s.poolFree := rfl
@[simp] theorem takeTriggers_gQueue : (takeTriggers s).gQueue = s.gQueue := rfl
@[simp] theorem takeTriggers_sQueue : (takeTriggers s).sQueue = s.sQueue := rfl
@[simp] theorem takeTriggers_gRun : (takeTriggers s).gRun = s.gRun := rfl
@[simp] theorem takeTriggers_tags : (takeTriggers s).tags = s.tags := rfl
@[simp] theorem takeTriggers_link : (takeTriggers s).link = s.link := rfl
@[simp] theorem takeTriggers_readyLevel : (takeTriggers s).readyLevel = s.readyLevel := rfl
@[simp] theorem takeTriggers_responseTimeout : (takeTriggers s).responseTimeout = s.responseTimeout := rfl
@[simp] theorem takeTriggers_engine : (takeTriggers s).engine = s.engine := rfl
@[simp] theorem takeTriggers_attention : (takeTriggers s).attention = s.attention := rfl
@[simp] theorem takeTriggers_intStatus : (takeTriggers s).intStatus = s.intStatus := rfl
@[simp] theorem takeTriggers_intEnable : (takeTriggers s).intEnable = s.intEnable := rfl
@[simp] theorem takeTriggers_sent : (takeTriggers s).sent = s.sent := rfl
@[simp] theorem takeTriggers_memoryOut : (takeTriggers s).memoryOut = s.memoryOut := rfl
@[simp] theorem takeTriggers_freeIndex : (takeTriggers s).freeIndex = s.freeIndex := rfl
@[simp] theorem takeTriggers_pending : (takeTriggers s).pending = s.pending := rfl

/-! ### releaseTrigger -/

@[simp] theorem releaseTrigger_leases (l : LeaseId) : (releaseTrigger l s).leases = s.leases := by unfold releaseTrigger; split <;> rfl
@[simp] theorem releaseTrigger_timers (l : LeaseId) : (releaseTrigger l s).timers = s.timers := by unfold releaseTrigger; split <;> rfl
@[simp] theorem releaseTrigger_timebase (l : LeaseId) : (releaseTrigger l s).timebase = s.timebase := by unfold releaseTrigger; split <;> rfl
@[simp] theorem releaseTrigger_capacity (l : LeaseId) : (releaseTrigger l s).capacity = s.capacity := by unfold releaseTrigger; split <;> rfl
@[simp] theorem releaseTrigger_committed (l : LeaseId) : (releaseTrigger l s).committed = s.committed := by unfold releaseTrigger; split <;> rfl
@[simp] theorem releaseTrigger_ports (l : LeaseId) : (releaseTrigger l s).ports = s.ports := by unfold releaseTrigger; split <;> rfl
@[simp] theorem releaseTrigger_streams (l : LeaseId) : (releaseTrigger l s).streams = s.streams := by unfold releaseTrigger; split <;> rfl
@[simp] theorem releaseTrigger_lastServed (l : LeaseId) : (releaseTrigger l s).lastServed = s.lastServed := by unfold releaseTrigger; split <;> rfl
@[simp] theorem releaseTrigger_holdQueues (l : LeaseId) : (releaseTrigger l s).holdQueues = s.holdQueues := by unfold releaseTrigger; split <;> rfl
@[simp] theorem releaseTrigger_poolFree (l : LeaseId) : (releaseTrigger l s).poolFree = s.poolFree := by unfold releaseTrigger; split <;> rfl
@[simp] theorem releaseTrigger_gQueue (l : LeaseId) : (releaseTrigger l s).gQueue = s.gQueue := by unfold releaseTrigger; split <;> rfl
@[simp] theorem releaseTrigger_sQueue (l : LeaseId) : (releaseTrigger l s).sQueue = s.sQueue := by unfold releaseTrigger; split <;> rfl
@[simp] theorem releaseTrigger_gRun (l : LeaseId) : (releaseTrigger l s).gRun = s.gRun := by unfold releaseTrigger; split <;> rfl
@[simp] theorem releaseTrigger_tags (l : LeaseId) : (releaseTrigger l s).tags = s.tags := by unfold releaseTrigger; split <;> rfl
@[simp] theorem releaseTrigger_link (l : LeaseId) : (releaseTrigger l s).link = s.link := by unfold releaseTrigger; split <;> rfl
@[simp] theorem releaseTrigger_readyLevel (l : LeaseId) : (releaseTrigger l s).readyLevel = s.readyLevel := by unfold releaseTrigger; split <;> rfl
@[simp] theorem releaseTrigger_responseTimeout (l : LeaseId) : (releaseTrigger l s).responseTimeout = s.responseTimeout := by unfold releaseTrigger; split <;> rfl
@[simp] theorem releaseTrigger_engine (l : LeaseId) : (releaseTrigger l s).engine = s.engine := by unfold releaseTrigger; split <;> rfl
@[simp] theorem releaseTrigger_attention (l : LeaseId) : (releaseTrigger l s).attention = s.attention := by unfold releaseTrigger; split <;> rfl
@[simp] theorem releaseTrigger_intStatus (l : LeaseId) : (releaseTrigger l s).intStatus = s.intStatus := by unfold releaseTrigger; split <;> rfl
@[simp] theorem releaseTrigger_intEnable (l : LeaseId) : (releaseTrigger l s).intEnable = s.intEnable := by unfold releaseTrigger; split <;> rfl
@[simp] theorem releaseTrigger_sent (l : LeaseId) : (releaseTrigger l s).sent = s.sent := by unfold releaseTrigger; split <;> rfl
@[simp] theorem releaseTrigger_memoryOut (l : LeaseId) : (releaseTrigger l s).memoryOut = s.memoryOut := by unfold releaseTrigger; split <;> rfl
@[simp] theorem releaseTrigger_freeIndex (l : LeaseId) : (releaseTrigger l s).freeIndex = s.freeIndex := by unfold releaseTrigger; split <;> rfl
@[simp] theorem releaseTrigger_delayed (l : LeaseId) : (releaseTrigger l s).delayed = s.delayed := by unfold releaseTrigger; split <;> rfl
@[simp] theorem releaseTrigger_pending (l : LeaseId) : (releaseTrigger l s).pending = s.pending := by unfold releaseTrigger; split <;> rfl

/-! ### departPort -/

@[simp] theorem departPort_leases (p : PortId) : (departPort p s).leases = s.leases := rfl
@[simp] theorem departPort_timers (p : PortId) : (departPort p s).timers = s.timers := rfl
@[simp] theorem departPort_timebase (p : PortId) : (departPort p s).timebase = s.timebase := rfl
@[simp] theorem departPort_capacity (p : PortId) : (departPort p s).capacity = s.capacity := rfl
@[simp] theorem departPort_committed (p : PortId) : (departPort p s).committed = s.committed := rfl
@[simp] theorem departPort_streams (p : PortId) : (departPort p s).streams = s.streams := rfl
@[simp] theorem departPort_lastServed (p : PortId) : (departPort p s).lastServed = s.lastServed := rfl
@[simp] theorem departPort_holdQueues (p : PortId) : (departPort p s).holdQueues = s.holdQueues := rfl
@[simp] theorem departPort_releases (p : PortId) : (departPort p s).releases = s.releases := rfl
@[simp] theorem departPort_poolFree (p : PortId) : (departPort p s).poolFree = s.poolFree := rfl
@[simp] theorem departPort_gQueue (p : PortId) : (departPort p s).gQueue = s.gQueue := rfl
@[simp] theorem departPort_sQueue (p : PortId) : (departPort p s).sQueue = s.sQueue := rfl
@[simp] theorem departPort_gRun (p : PortId) : (departPort p s).gRun = s.gRun := rfl
@[simp] theorem departPort_tags (p : PortId) : (departPort p s).tags = s.tags := rfl
@[simp] theorem departPort_link (p : PortId) : (departPort p s).link = s.link := rfl
@[simp] theorem departPort_readyLevel (p : PortId) : (departPort p s).readyLevel = s.readyLevel := rfl
@[simp] theorem departPort_responseTimeout (p : PortId) : (departPort p s).responseTimeout = s.responseTimeout := rfl
@[simp] theorem departPort_engine (p : PortId) : (departPort p s).engine = s.engine := rfl
@[simp] theorem departPort_attention (p : PortId) : (departPort p s).attention = s.attention := rfl
@[simp] theorem departPort_intStatus (p : PortId) : (departPort p s).intStatus = s.intStatus := rfl
@[simp] theorem departPort_intEnable (p : PortId) : (departPort p s).intEnable = s.intEnable := rfl
@[simp] theorem departPort_sent (p : PortId) : (departPort p s).sent = s.sent := rfl
@[simp] theorem departPort_memoryOut (p : PortId) : (departPort p s).memoryOut = s.memoryOut := rfl
@[simp] theorem departPort_freeIndex (p : PortId) : (departPort p s).freeIndex = s.freeIndex := rfl
@[simp] theorem departPort_delayed (p : PortId) : (departPort p s).delayed = s.delayed := rfl
@[simp] theorem departPort_pending (p : PortId) : (departPort p s).pending = s.pending := rfl

/-! ### refuseHead -/

@[simp] theorem refuseHead_leases (p : PortId) (r : PortRequest) (st : ClientStatus) : (refuseHead p r st s).leases = s.leases := rfl
@[simp] theorem refuseHead_timers (p : PortId) (r : PortRequest) (st : ClientStatus) : (refuseHead p r st s).timers = s.timers := rfl
@[simp] theorem refuseHead_timebase (p : PortId) (r : PortRequest) (st : ClientStatus) : (refuseHead p r st s).timebase = s.timebase := rfl
@[simp] theorem refuseHead_capacity (p : PortId) (r : PortRequest) (st : ClientStatus) : (refuseHead p r st s).capacity = s.capacity := rfl
@[simp] theorem refuseHead_committed (p : PortId) (r : PortRequest) (st : ClientStatus) : (refuseHead p r st s).committed = s.committed := rfl
@[simp] theorem refuseHead_streams (p : PortId) (r : PortRequest) (st : ClientStatus) : (refuseHead p r st s).streams = s.streams := rfl
@[simp] theorem refuseHead_lastServed (p : PortId) (r : PortRequest) (st : ClientStatus) : (refuseHead p r st s).lastServed = s.lastServed := rfl
@[simp] theorem refuseHead_holdQueues (p : PortId) (r : PortRequest) (st : ClientStatus) : (refuseHead p r st s).holdQueues = s.holdQueues := rfl
@[simp] theorem refuseHead_releases (p : PortId) (r : PortRequest) (st : ClientStatus) : (refuseHead p r st s).releases = s.releases := rfl
@[simp] theorem refuseHead_poolFree (p : PortId) (r : PortRequest) (st : ClientStatus) : (refuseHead p r st s).poolFree = s.poolFree := rfl
@[simp] theorem refuseHead_gQueue (p : PortId) (r : PortRequest) (st : ClientStatus) : (refuseHead p r st s).gQueue = s.gQueue := rfl
@[simp] theorem refuseHead_sQueue (p : PortId) (r : PortRequest) (st : ClientStatus) : (refuseHead p r st s).sQueue = s.sQueue := rfl
@[simp] theorem refuseHead_gRun (p : PortId) (r : PortRequest) (st : ClientStatus) : (refuseHead p r st s).gRun = s.gRun := rfl
@[simp] theorem refuseHead_tags (p : PortId) (r : PortRequest) (st : ClientStatus) : (refuseHead p r st s).tags = s.tags := rfl
@[simp] theorem refuseHead_link (p : PortId) (r : PortRequest) (st : ClientStatus) : (refuseHead p r st s).link = s.link := rfl
@[simp] theorem refuseHead_readyLevel (p : PortId) (r : PortRequest) (st : ClientStatus) : (refuseHead p r st s).readyLevel = s.readyLevel := rfl
@[simp] theorem refuseHead_responseTimeout (p : PortId) (r : PortRequest) (st : ClientStatus) : (refuseHead p r st s).responseTimeout = s.responseTimeout := rfl
@[simp] theorem refuseHead_engine (p : PortId) (r : PortRequest) (st : ClientStatus) : (refuseHead p r st s).engine = s.engine := rfl
@[simp] theorem refuseHead_attention (p : PortId) (r : PortRequest) (st : ClientStatus) : (refuseHead p r st s).attention = s.attention := rfl
@[simp] theorem refuseHead_intStatus (p : PortId) (r : PortRequest) (st : ClientStatus) : (refuseHead p r st s).intStatus = s.intStatus := rfl
@[simp] theorem refuseHead_intEnable (p : PortId) (r : PortRequest) (st : ClientStatus) : (refuseHead p r st s).intEnable = s.intEnable := rfl
@[simp] theorem refuseHead_memoryOut (p : PortId) (r : PortRequest) (st : ClientStatus) : (refuseHead p r st s).memoryOut = s.memoryOut := rfl
@[simp] theorem refuseHead_freeIndex (p : PortId) (r : PortRequest) (st : ClientStatus) : (refuseHead p r st s).freeIndex = s.freeIndex := rfl
@[simp] theorem refuseHead_delayed (p : PortId) (r : PortRequest) (st : ClientStatus) : (refuseHead p r st s).delayed = s.delayed := rfl
@[simp] theorem refuseHead_pending (p : PortId) (r : PortRequest) (st : ClientStatus) : (refuseHead p r st s).pending = s.pending := rfl

/-! ### place -/

@[simp] theorem place_leases (q : QueueName) (e : DispatchEntry) : (s.place q e).leases = s.leases := by cases q <;> rfl
@[simp] theorem place_timers (q : QueueName) (e : DispatchEntry) : (s.place q e).timers = s.timers := by cases q <;> rfl
@[simp] theorem place_timebase (q : QueueName) (e : DispatchEntry) : (s.place q e).timebase = s.timebase := by cases q <;> rfl
@[simp] theorem place_capacity (q : QueueName) (e : DispatchEntry) : (s.place q e).capacity = s.capacity := by cases q <;> rfl
@[simp] theorem place_committed (q : QueueName) (e : DispatchEntry) : (s.place q e).committed = s.committed := by cases q <;> rfl
@[simp] theorem place_ports (q : QueueName) (e : DispatchEntry) : (s.place q e).ports = s.ports := by cases q <;> rfl
@[simp] theorem place_streams (q : QueueName) (e : DispatchEntry) : (s.place q e).streams = s.streams := by cases q <;> rfl
@[simp] theorem place_lastServed (q : QueueName) (e : DispatchEntry) : (s.place q e).lastServed = s.lastServed := by cases q <;> rfl
@[simp] theorem place_holdQueues (q : QueueName) (e : DispatchEntry) : (s.place q e).holdQueues = s.holdQueues := by cases q <;> rfl
@[simp] theorem place_releases (q : QueueName) (e : DispatchEntry) : (s.place q e).releases = s.releases := by cases q <;> rfl
@[simp] theorem place_poolFree (q : QueueName) (e : DispatchEntry) : (s.place q e).poolFree = s.poolFree := by cases q <;> rfl
@[simp] theorem place_gRun (q : QueueName) (e : DispatchEntry) : (s.place q e).gRun = s.gRun := by cases q <;> rfl
@[simp] theorem place_tags (q : QueueName) (e : DispatchEntry) : (s.place q e).tags = s.tags := by cases q <;> rfl
@[simp] theorem place_link (q : QueueName) (e : DispatchEntry) : (s.place q e).link = s.link := by cases q <;> rfl
@[simp] theorem place_readyLevel (q : QueueName) (e : DispatchEntry) : (s.place q e).readyLevel = s.readyLevel := by cases q <;> rfl
@[simp] theorem place_responseTimeout (q : QueueName) (e : DispatchEntry) : (s.place q e).responseTimeout = s.responseTimeout := by cases q <;> rfl
@[simp] theorem place_engine (q : QueueName) (e : DispatchEntry) : (s.place q e).engine = s.engine := by cases q <;> rfl
@[simp] theorem place_attention (q : QueueName) (e : DispatchEntry) : (s.place q e).attention = s.attention := by cases q <;> rfl
@[simp] theorem place_intStatus (q : QueueName) (e : DispatchEntry) : (s.place q e).intStatus = s.intStatus := by cases q <;> rfl
@[simp] theorem place_intEnable (q : QueueName) (e : DispatchEntry) : (s.place q e).intEnable = s.intEnable := by cases q <;> rfl
@[simp] theorem place_sent (q : QueueName) (e : DispatchEntry) : (s.place q e).sent = s.sent := by cases q <;> rfl
@[simp] theorem place_memoryOut (q : QueueName) (e : DispatchEntry) : (s.place q e).memoryOut = s.memoryOut := by cases q <;> rfl
@[simp] theorem place_freeIndex (q : QueueName) (e : DispatchEntry) : (s.place q e).freeIndex = s.freeIndex := by cases q <;> rfl
@[simp] theorem place_delayed (q : QueueName) (e : DispatchEntry) : (s.place q e).delayed = s.delayed := by cases q <;> rfl
@[simp] theorem place_pending (q : QueueName) (e : DispatchEntry) : (s.place q e).pending = s.pending := by cases q <;> rfl

/-! ### chargeAndPlace -/

@[simp] theorem chargeAndPlace_timers (e : DispatchEntry) : (chargeAndPlace e s).timers = s.timers := by simp [chargeAndPlace]
@[simp] theorem chargeAndPlace_timebase (e : DispatchEntry) : (chargeAndPlace e s).timebase = s.timebase := by simp [chargeAndPlace]
@[simp] theorem chargeAndPlace_capacity (e : DispatchEntry) : (chargeAndPlace e s).capacity = s.capacity := by simp [chargeAndPlace]
@[simp] theorem chargeAndPlace_committed (e : DispatchEntry) : (chargeAndPlace e s).committed = s.committed := by simp [chargeAndPlace]
@[simp] theorem chargeAndPlace_ports (e : DispatchEntry) : (chargeAndPlace e s).ports = s.ports := by simp [chargeAndPlace]
@[simp] theorem chargeAndPlace_streams (e : DispatchEntry) : (chargeAndPlace e s).streams = s.streams := by simp [chargeAndPlace]
@[simp] theorem chargeAndPlace_lastServed (e : DispatchEntry) : (chargeAndPlace e s).lastServed = s.lastServed := by simp [chargeAndPlace]
@[simp] theorem chargeAndPlace_holdQueues (e : DispatchEntry) : (chargeAndPlace e s).holdQueues = s.holdQueues := by simp [chargeAndPlace]
@[simp] theorem chargeAndPlace_releases (e : DispatchEntry) : (chargeAndPlace e s).releases = s.releases := by simp [chargeAndPlace]
@[simp] theorem chargeAndPlace_poolFree (e : DispatchEntry) : (chargeAndPlace e s).poolFree = s.poolFree := by simp [chargeAndPlace]
@[simp] theorem chargeAndPlace_gRun (e : DispatchEntry) : (chargeAndPlace e s).gRun = s.gRun := by simp [chargeAndPlace]
@[simp] theorem chargeAndPlace_tags (e : DispatchEntry) : (chargeAndPlace e s).tags = s.tags := by simp [chargeAndPlace]
@[simp] theorem chargeAndPlace_link (e : DispatchEntry) : (chargeAndPlace e s).link = s.link := by simp [chargeAndPlace]
@[simp] theorem chargeAndPlace_readyLevel (e : DispatchEntry) : (chargeAndPlace e s).readyLevel = s.readyLevel := by simp [chargeAndPlace]
@[simp] theorem chargeAndPlace_responseTimeout (e : DispatchEntry) : (chargeAndPlace e s).responseTimeout = s.responseTimeout := by simp [chargeAndPlace]
@[simp] theorem chargeAndPlace_engine (e : DispatchEntry) : (chargeAndPlace e s).engine = s.engine := by simp [chargeAndPlace]
@[simp] theorem chargeAndPlace_attention (e : DispatchEntry) : (chargeAndPlace e s).attention = s.attention := by simp [chargeAndPlace]
@[simp] theorem chargeAndPlace_intStatus (e : DispatchEntry) : (chargeAndPlace e s).intStatus = s.intStatus := by simp [chargeAndPlace]
@[simp] theorem chargeAndPlace_intEnable (e : DispatchEntry) : (chargeAndPlace e s).intEnable = s.intEnable := by simp [chargeAndPlace]
@[simp] theorem chargeAndPlace_sent (e : DispatchEntry) : (chargeAndPlace e s).sent = s.sent := by simp [chargeAndPlace]
@[simp] theorem chargeAndPlace_memoryOut (e : DispatchEntry) : (chargeAndPlace e s).memoryOut = s.memoryOut := by simp [chargeAndPlace]
@[simp] theorem chargeAndPlace_freeIndex (e : DispatchEntry) : (chargeAndPlace e s).freeIndex = s.freeIndex := by simp [chargeAndPlace]
@[simp] theorem chargeAndPlace_delayed (e : DispatchEntry) : (chargeAndPlace e s).delayed = s.delayed := by simp [chargeAndPlace]
@[simp] theorem chargeAndPlace_pending (e : DispatchEntry) : (chargeAndPlace e s).pending = s.pending := by simp [chargeAndPlace]

/-! ### overdrawAndPlace -/

@[simp] theorem overdrawAndPlace_timers (e : DispatchEntry) : (overdrawAndPlace e s).timers = s.timers := by simp [overdrawAndPlace]
@[simp] theorem overdrawAndPlace_timebase (e : DispatchEntry) : (overdrawAndPlace e s).timebase = s.timebase := by simp [overdrawAndPlace]
@[simp] theorem overdrawAndPlace_capacity (e : DispatchEntry) : (overdrawAndPlace e s).capacity = s.capacity := by simp [overdrawAndPlace]
@[simp] theorem overdrawAndPlace_committed (e : DispatchEntry) : (overdrawAndPlace e s).committed = s.committed := by simp [overdrawAndPlace]
@[simp] theorem overdrawAndPlace_ports (e : DispatchEntry) : (overdrawAndPlace e s).ports = s.ports := by simp [overdrawAndPlace]
@[simp] theorem overdrawAndPlace_streams (e : DispatchEntry) : (overdrawAndPlace e s).streams = s.streams := by simp [overdrawAndPlace]
@[simp] theorem overdrawAndPlace_lastServed (e : DispatchEntry) : (overdrawAndPlace e s).lastServed = s.lastServed := by simp [overdrawAndPlace]
@[simp] theorem overdrawAndPlace_holdQueues (e : DispatchEntry) : (overdrawAndPlace e s).holdQueues = s.holdQueues := by simp [overdrawAndPlace]
@[simp] theorem overdrawAndPlace_releases (e : DispatchEntry) : (overdrawAndPlace e s).releases = s.releases := by simp [overdrawAndPlace]
@[simp] theorem overdrawAndPlace_poolFree (e : DispatchEntry) : (overdrawAndPlace e s).poolFree = s.poolFree := by simp [overdrawAndPlace]
@[simp] theorem overdrawAndPlace_gRun (e : DispatchEntry) : (overdrawAndPlace e s).gRun = s.gRun := by simp [overdrawAndPlace]
@[simp] theorem overdrawAndPlace_tags (e : DispatchEntry) : (overdrawAndPlace e s).tags = s.tags := by simp [overdrawAndPlace]
@[simp] theorem overdrawAndPlace_link (e : DispatchEntry) : (overdrawAndPlace e s).link = s.link := by simp [overdrawAndPlace]
@[simp] theorem overdrawAndPlace_readyLevel (e : DispatchEntry) : (overdrawAndPlace e s).readyLevel = s.readyLevel := by simp [overdrawAndPlace]
@[simp] theorem overdrawAndPlace_responseTimeout (e : DispatchEntry) : (overdrawAndPlace e s).responseTimeout = s.responseTimeout := by simp [overdrawAndPlace]
@[simp] theorem overdrawAndPlace_engine (e : DispatchEntry) : (overdrawAndPlace e s).engine = s.engine := by simp [overdrawAndPlace]
@[simp] theorem overdrawAndPlace_attention (e : DispatchEntry) : (overdrawAndPlace e s).attention = s.attention := by simp [overdrawAndPlace]
@[simp] theorem overdrawAndPlace_intStatus (e : DispatchEntry) : (overdrawAndPlace e s).intStatus = s.intStatus := by simp [overdrawAndPlace]
@[simp] theorem overdrawAndPlace_intEnable (e : DispatchEntry) : (overdrawAndPlace e s).intEnable = s.intEnable := by simp [overdrawAndPlace]
@[simp] theorem overdrawAndPlace_sent (e : DispatchEntry) : (overdrawAndPlace e s).sent = s.sent := by simp [overdrawAndPlace]
@[simp] theorem overdrawAndPlace_memoryOut (e : DispatchEntry) : (overdrawAndPlace e s).memoryOut = s.memoryOut := by simp [overdrawAndPlace]
@[simp] theorem overdrawAndPlace_freeIndex (e : DispatchEntry) : (overdrawAndPlace e s).freeIndex = s.freeIndex := by simp [overdrawAndPlace]
@[simp] theorem overdrawAndPlace_delayed (e : DispatchEntry) : (overdrawAndPlace e s).delayed = s.delayed := by simp [overdrawAndPlace]
@[simp] theorem overdrawAndPlace_pending (e : DispatchEntry) : (overdrawAndPlace e s).pending = s.pending := by simp [overdrawAndPlace]

/-! ### answerTag -/

@[simp] theorem answerTag_leases (f : IssuedTag) (st : ClientStatus) (d : List Beat) : (answerTag f st d s).leases = s.leases := by unfold answerTag; split <;> [(split <;> rfl); rfl]
@[simp] theorem answerTag_timers (f : IssuedTag) (st : ClientStatus) (d : List Beat) : (answerTag f st d s).timers = s.timers := by unfold answerTag; split <;> [(split <;> rfl); rfl]
@[simp] theorem answerTag_timebase (f : IssuedTag) (st : ClientStatus) (d : List Beat) : (answerTag f st d s).timebase = s.timebase := by unfold answerTag; split <;> [(split <;> rfl); rfl]
@[simp] theorem answerTag_capacity (f : IssuedTag) (st : ClientStatus) (d : List Beat) : (answerTag f st d s).capacity = s.capacity := by unfold answerTag; split <;> [(split <;> rfl); rfl]
@[simp] theorem answerTag_committed (f : IssuedTag) (st : ClientStatus) (d : List Beat) : (answerTag f st d s).committed = s.committed := by unfold answerTag; split <;> [(split <;> rfl); rfl]
@[simp] theorem answerTag_ports (f : IssuedTag) (st : ClientStatus) (d : List Beat) : (answerTag f st d s).ports = s.ports := by unfold answerTag; split <;> [(split <;> rfl); rfl]
@[simp] theorem answerTag_streams (f : IssuedTag) (st : ClientStatus) (d : List Beat) : (answerTag f st d s).streams = s.streams := by unfold answerTag; split <;> [(split <;> rfl); rfl]
@[simp] theorem answerTag_lastServed (f : IssuedTag) (st : ClientStatus) (d : List Beat) : (answerTag f st d s).lastServed = s.lastServed := by unfold answerTag; split <;> [(split <;> rfl); rfl]
@[simp] theorem answerTag_holdQueues (f : IssuedTag) (st : ClientStatus) (d : List Beat) : (answerTag f st d s).holdQueues = s.holdQueues := by unfold answerTag; split <;> [(split <;> rfl); rfl]
@[simp] theorem answerTag_releases (f : IssuedTag) (st : ClientStatus) (d : List Beat) : (answerTag f st d s).releases = s.releases := by unfold answerTag; split <;> [(split <;> rfl); rfl]
@[simp] theorem answerTag_poolFree (f : IssuedTag) (st : ClientStatus) (d : List Beat) : (answerTag f st d s).poolFree = s.poolFree := by unfold answerTag; split <;> [(split <;> rfl); rfl]
@[simp] theorem answerTag_gQueue (f : IssuedTag) (st : ClientStatus) (d : List Beat) : (answerTag f st d s).gQueue = s.gQueue := by unfold answerTag; split <;> [(split <;> rfl); rfl]
@[simp] theorem answerTag_sQueue (f : IssuedTag) (st : ClientStatus) (d : List Beat) : (answerTag f st d s).sQueue = s.sQueue := by unfold answerTag; split <;> [(split <;> rfl); rfl]
@[simp] theorem answerTag_gRun (f : IssuedTag) (st : ClientStatus) (d : List Beat) : (answerTag f st d s).gRun = s.gRun := by unfold answerTag; split <;> [(split <;> rfl); rfl]
@[simp] theorem answerTag_tags (f : IssuedTag) (st : ClientStatus) (d : List Beat) : (answerTag f st d s).tags = s.tags := by unfold answerTag; split <;> [(split <;> rfl); rfl]
@[simp] theorem answerTag_link (f : IssuedTag) (st : ClientStatus) (d : List Beat) : (answerTag f st d s).link = s.link := by unfold answerTag; split <;> [(split <;> rfl); rfl]
@[simp] theorem answerTag_readyLevel (f : IssuedTag) (st : ClientStatus) (d : List Beat) : (answerTag f st d s).readyLevel = s.readyLevel := by unfold answerTag; split <;> [(split <;> rfl); rfl]
@[simp] theorem answerTag_responseTimeout (f : IssuedTag) (st : ClientStatus) (d : List Beat) : (answerTag f st d s).responseTimeout = s.responseTimeout := by unfold answerTag; split <;> [(split <;> rfl); rfl]
@[simp] theorem answerTag_engine (f : IssuedTag) (st : ClientStatus) (d : List Beat) : (answerTag f st d s).engine = s.engine := by unfold answerTag; split <;> [(split <;> rfl); rfl]
@[simp] theorem answerTag_attention (f : IssuedTag) (st : ClientStatus) (d : List Beat) : (answerTag f st d s).attention = s.attention := by unfold answerTag; split <;> [(split <;> rfl); rfl]
@[simp] theorem answerTag_intStatus (f : IssuedTag) (st : ClientStatus) (d : List Beat) : (answerTag f st d s).intStatus = s.intStatus := by unfold answerTag; split <;> [(split <;> rfl); rfl]
@[simp] theorem answerTag_intEnable (f : IssuedTag) (st : ClientStatus) (d : List Beat) : (answerTag f st d s).intEnable = s.intEnable := by unfold answerTag; split <;> [(split <;> rfl); rfl]
@[simp] theorem answerTag_memoryOut (f : IssuedTag) (st : ClientStatus) (d : List Beat) : (answerTag f st d s).memoryOut = s.memoryOut := by unfold answerTag; split <;> [(split <;> rfl); rfl]
@[simp] theorem answerTag_freeIndex (f : IssuedTag) (st : ClientStatus) (d : List Beat) : (answerTag f st d s).freeIndex = s.freeIndex := by unfold answerTag; split <;> [(split <;> rfl); rfl]
@[simp] theorem answerTag_delayed (f : IssuedTag) (st : ClientStatus) (d : List Beat) : (answerTag f st d s).delayed = s.delayed := by unfold answerTag; split <;> [(split <;> rfl); rfl]
@[simp] theorem answerTag_pending (f : IssuedTag) (st : ClientStatus) (d : List Beat) : (answerTag f st d s).pending = s.pending := by unfold answerTag; split <;> [(split <;> rfl); rfl]

/-! ### haltEngine -/

@[simp] theorem haltEngine_leases (c : FaultCause) : (haltEngine c s).leases = s.leases := by unfold haltEngine; split <;> rfl
@[simp] theorem haltEngine_timers (c : FaultCause) : (haltEngine c s).timers = s.timers := by unfold haltEngine; split <;> rfl
@[simp] theorem haltEngine_timebase (c : FaultCause) : (haltEngine c s).timebase = s.timebase := by unfold haltEngine; split <;> rfl
@[simp] theorem haltEngine_capacity (c : FaultCause) : (haltEngine c s).capacity = s.capacity := by unfold haltEngine; split <;> rfl
@[simp] theorem haltEngine_committed (c : FaultCause) : (haltEngine c s).committed = s.committed := by unfold haltEngine; split <;> rfl
@[simp] theorem haltEngine_ports (c : FaultCause) : (haltEngine c s).ports = s.ports := by unfold haltEngine; split <;> rfl
@[simp] theorem haltEngine_streams (c : FaultCause) : (haltEngine c s).streams = s.streams := by unfold haltEngine; split <;> rfl
@[simp] theorem haltEngine_lastServed (c : FaultCause) : (haltEngine c s).lastServed = s.lastServed := by unfold haltEngine; split <;> rfl
@[simp] theorem haltEngine_holdQueues (c : FaultCause) : (haltEngine c s).holdQueues = s.holdQueues := by unfold haltEngine; split <;> rfl
@[simp] theorem haltEngine_releases (c : FaultCause) : (haltEngine c s).releases = s.releases := by unfold haltEngine; split <;> rfl
@[simp] theorem haltEngine_poolFree (c : FaultCause) : (haltEngine c s).poolFree = s.poolFree := by unfold haltEngine; split <;> rfl
@[simp] theorem haltEngine_gQueue (c : FaultCause) : (haltEngine c s).gQueue = s.gQueue := by unfold haltEngine; split <;> rfl
@[simp] theorem haltEngine_sQueue (c : FaultCause) : (haltEngine c s).sQueue = s.sQueue := by unfold haltEngine; split <;> rfl
@[simp] theorem haltEngine_gRun (c : FaultCause) : (haltEngine c s).gRun = s.gRun := by unfold haltEngine; split <;> rfl
@[simp] theorem haltEngine_tags (c : FaultCause) : (haltEngine c s).tags = s.tags := by unfold haltEngine; split <;> rfl
@[simp] theorem haltEngine_link (c : FaultCause) : (haltEngine c s).link = s.link := by unfold haltEngine; split <;> rfl
@[simp] theorem haltEngine_readyLevel (c : FaultCause) : (haltEngine c s).readyLevel = s.readyLevel := by unfold haltEngine; split <;> rfl
@[simp] theorem haltEngine_responseTimeout (c : FaultCause) : (haltEngine c s).responseTimeout = s.responseTimeout := by unfold haltEngine; split <;> rfl
@[simp] theorem haltEngine_attention (c : FaultCause) : (haltEngine c s).attention = s.attention := by unfold haltEngine; split <;> rfl
@[simp] theorem haltEngine_intEnable (c : FaultCause) : (haltEngine c s).intEnable = s.intEnable := by unfold haltEngine; split <;> rfl
@[simp] theorem haltEngine_sent (c : FaultCause) : (haltEngine c s).sent = s.sent := by unfold haltEngine; split <;> rfl
@[simp] theorem haltEngine_memoryOut (c : FaultCause) : (haltEngine c s).memoryOut = s.memoryOut := by unfold haltEngine; split <;> rfl
@[simp] theorem haltEngine_freeIndex (c : FaultCause) : (haltEngine c s).freeIndex = s.freeIndex := by unfold haltEngine; split <;> rfl
@[simp] theorem haltEngine_delayed (c : FaultCause) : (haltEngine c s).delayed = s.delayed := by unfold haltEngine; split <;> rfl
@[simp] theorem haltEngine_pending (c : FaultCause) : (haltEngine c s).pending = s.pending := by unfold haltEngine; split <;> rfl

/-! ### haltIfEngine -/

@[simp] theorem haltIfEngine_leases (f : IssuedTag) (c : FaultCause) : (haltIfEngine f c s).leases = s.leases := by unfold haltIfEngine; split <;> simp
@[simp] theorem haltIfEngine_timers (f : IssuedTag) (c : FaultCause) : (haltIfEngine f c s).timers = s.timers := by unfold haltIfEngine; split <;> simp
@[simp] theorem haltIfEngine_timebase (f : IssuedTag) (c : FaultCause) : (haltIfEngine f c s).timebase = s.timebase := by unfold haltIfEngine; split <;> simp
@[simp] theorem haltIfEngine_capacity (f : IssuedTag) (c : FaultCause) : (haltIfEngine f c s).capacity = s.capacity := by unfold haltIfEngine; split <;> simp
@[simp] theorem haltIfEngine_committed (f : IssuedTag) (c : FaultCause) : (haltIfEngine f c s).committed = s.committed := by unfold haltIfEngine; split <;> simp
@[simp] theorem haltIfEngine_ports (f : IssuedTag) (c : FaultCause) : (haltIfEngine f c s).ports = s.ports := by unfold haltIfEngine; split <;> simp
@[simp] theorem haltIfEngine_streams (f : IssuedTag) (c : FaultCause) : (haltIfEngine f c s).streams = s.streams := by unfold haltIfEngine; split <;> simp
@[simp] theorem haltIfEngine_lastServed (f : IssuedTag) (c : FaultCause) : (haltIfEngine f c s).lastServed = s.lastServed := by unfold haltIfEngine; split <;> simp
@[simp] theorem haltIfEngine_holdQueues (f : IssuedTag) (c : FaultCause) : (haltIfEngine f c s).holdQueues = s.holdQueues := by unfold haltIfEngine; split <;> simp
@[simp] theorem haltIfEngine_releases (f : IssuedTag) (c : FaultCause) : (haltIfEngine f c s).releases = s.releases := by unfold haltIfEngine; split <;> simp
@[simp] theorem haltIfEngine_poolFree (f : IssuedTag) (c : FaultCause) : (haltIfEngine f c s).poolFree = s.poolFree := by unfold haltIfEngine; split <;> simp
@[simp] theorem haltIfEngine_gQueue (f : IssuedTag) (c : FaultCause) : (haltIfEngine f c s).gQueue = s.gQueue := by unfold haltIfEngine; split <;> simp
@[simp] theorem haltIfEngine_sQueue (f : IssuedTag) (c : FaultCause) : (haltIfEngine f c s).sQueue = s.sQueue := by unfold haltIfEngine; split <;> simp
@[simp] theorem haltIfEngine_gRun (f : IssuedTag) (c : FaultCause) : (haltIfEngine f c s).gRun = s.gRun := by unfold haltIfEngine; split <;> simp
@[simp] theorem haltIfEngine_tags (f : IssuedTag) (c : FaultCause) : (haltIfEngine f c s).tags = s.tags := by unfold haltIfEngine; split <;> simp
@[simp] theorem haltIfEngine_link (f : IssuedTag) (c : FaultCause) : (haltIfEngine f c s).link = s.link := by unfold haltIfEngine; split <;> simp
@[simp] theorem haltIfEngine_readyLevel (f : IssuedTag) (c : FaultCause) : (haltIfEngine f c s).readyLevel = s.readyLevel := by unfold haltIfEngine; split <;> simp
@[simp] theorem haltIfEngine_responseTimeout (f : IssuedTag) (c : FaultCause) : (haltIfEngine f c s).responseTimeout = s.responseTimeout := by unfold haltIfEngine; split <;> simp
@[simp] theorem haltIfEngine_attention (f : IssuedTag) (c : FaultCause) : (haltIfEngine f c s).attention = s.attention := by unfold haltIfEngine; split <;> simp
@[simp] theorem haltIfEngine_intEnable (f : IssuedTag) (c : FaultCause) : (haltIfEngine f c s).intEnable = s.intEnable := by unfold haltIfEngine; split <;> simp
@[simp] theorem haltIfEngine_sent (f : IssuedTag) (c : FaultCause) : (haltIfEngine f c s).sent = s.sent := by unfold haltIfEngine; split <;> simp
@[simp] theorem haltIfEngine_memoryOut (f : IssuedTag) (c : FaultCause) : (haltIfEngine f c s).memoryOut = s.memoryOut := by unfold haltIfEngine; split <;> simp
@[simp] theorem haltIfEngine_freeIndex (f : IssuedTag) (c : FaultCause) : (haltIfEngine f c s).freeIndex = s.freeIndex := by unfold haltIfEngine; split <;> simp
@[simp] theorem haltIfEngine_delayed (f : IssuedTag) (c : FaultCause) : (haltIfEngine f c s).delayed = s.delayed := by unfold haltIfEngine; split <;> simp
@[simp] theorem haltIfEngine_pending (f : IssuedTag) (c : FaultCause) : (haltIfEngine f c s).pending = s.pending := by unfold haltIfEngine; split <;> simp

/-! ### faultTag -/

@[simp] theorem faultTag_timebase (t : TagId) (f : IssuedTag) (st : ClientStatus) (c : FaultCause) (a : Tag) : (faultTag t f st c a s).timebase = s.timebase := by simp [faultTag]
@[simp] theorem faultTag_capacity (t : TagId) (f : IssuedTag) (st : ClientStatus) (c : FaultCause) (a : Tag) : (faultTag t f st c a s).capacity = s.capacity := by simp [faultTag]
@[simp] theorem faultTag_committed (t : TagId) (f : IssuedTag) (st : ClientStatus) (c : FaultCause) (a : Tag) : (faultTag t f st c a s).committed = s.committed := by simp [faultTag]
@[simp] theorem faultTag_ports (t : TagId) (f : IssuedTag) (st : ClientStatus) (c : FaultCause) (a : Tag) : (faultTag t f st c a s).ports = s.ports := by simp [faultTag]
@[simp] theorem faultTag_streams (t : TagId) (f : IssuedTag) (st : ClientStatus) (c : FaultCause) (a : Tag) : (faultTag t f st c a s).streams = s.streams := by simp [faultTag]
@[simp] theorem faultTag_lastServed (t : TagId) (f : IssuedTag) (st : ClientStatus) (c : FaultCause) (a : Tag) : (faultTag t f st c a s).lastServed = s.lastServed := by simp [faultTag]
@[simp] theorem faultTag_holdQueues (t : TagId) (f : IssuedTag) (st : ClientStatus) (c : FaultCause) (a : Tag) : (faultTag t f st c a s).holdQueues = s.holdQueues := by simp [faultTag]
@[simp] theorem faultTag_releases (t : TagId) (f : IssuedTag) (st : ClientStatus) (c : FaultCause) (a : Tag) : (faultTag t f st c a s).releases = s.releases := by simp [faultTag]
@[simp] theorem faultTag_poolFree (t : TagId) (f : IssuedTag) (st : ClientStatus) (c : FaultCause) (a : Tag) : (faultTag t f st c a s).poolFree = s.poolFree := by simp [faultTag]
@[simp] theorem faultTag_gQueue (t : TagId) (f : IssuedTag) (st : ClientStatus) (c : FaultCause) (a : Tag) : (faultTag t f st c a s).gQueue = s.gQueue := by simp [faultTag]
@[simp] theorem faultTag_sQueue (t : TagId) (f : IssuedTag) (st : ClientStatus) (c : FaultCause) (a : Tag) : (faultTag t f st c a s).sQueue = s.sQueue := by simp [faultTag]
@[simp] theorem faultTag_gRun (t : TagId) (f : IssuedTag) (st : ClientStatus) (c : FaultCause) (a : Tag) : (faultTag t f st c a s).gRun = s.gRun := by simp [faultTag]
@[simp] theorem faultTag_link (t : TagId) (f : IssuedTag) (st : ClientStatus) (c : FaultCause) (a : Tag) : (faultTag t f st c a s).link = s.link := by simp [faultTag]
@[simp] theorem faultTag_readyLevel (t : TagId) (f : IssuedTag) (st : ClientStatus) (c : FaultCause) (a : Tag) : (faultTag t f st c a s).readyLevel = s.readyLevel := by simp [faultTag]
@[simp] theorem faultTag_responseTimeout (t : TagId) (f : IssuedTag) (st : ClientStatus) (c : FaultCause) (a : Tag) : (faultTag t f st c a s).responseTimeout = s.responseTimeout := by simp [faultTag]
@[simp] theorem faultTag_intEnable (t : TagId) (f : IssuedTag) (st : ClientStatus) (c : FaultCause) (a : Tag) : (faultTag t f st c a s).intEnable = s.intEnable := by simp [faultTag]
@[simp] theorem faultTag_memoryOut (t : TagId) (f : IssuedTag) (st : ClientStatus) (c : FaultCause) (a : Tag) : (faultTag t f st c a s).memoryOut = s.memoryOut := by simp [faultTag]
@[simp] theorem faultTag_freeIndex (t : TagId) (f : IssuedTag) (st : ClientStatus) (c : FaultCause) (a : Tag) : (faultTag t f st c a s).freeIndex = s.freeIndex := by simp [faultTag]
@[simp] theorem faultTag_delayed (t : TagId) (f : IssuedTag) (st : ClientStatus) (c : FaultCause) (a : Tag) : (faultTag t f st c a s).delayed = s.delayed := by simp [faultTag]
@[simp] theorem faultTag_pending (t : TagId) (f : IssuedTag) (st : ClientStatus) (c : FaultCause) (a : Tag) : (faultTag t f st c a s).pending = s.pending := by simp [faultTag]

end Sys2Proof.Machine
end

