-- ==== Sys2Proof/Laws/Layouts.lean ====
section
/-!
SUPPORT. The records of Section 11 bit by bit: what a packed beat holds at a field and between its fields, and which bits a code
reads.
-/

namespace Sys2Proof.Machine

/-! ### Packed beats -/

/-- The bits of one field: those of its value, at its offset, as many as its bytes hold. -/
theorem getLsbD_fieldBits (f : Nat × Nat × Nat) (i : Nat) :
    (fieldBits f).getLsbD i =
      (decide (i < 256) && decide (8 * f.1 ≤ i) && decide (i < 8 * f.1 + 8 * f.2.1) && f.2.2.testBit (i - 8 * f.1)) := by
  unfold fieldBits
  rw [BitVec.getLsbD_shiftLeft, BitVec.getLsbD_ofNat, Nat.testBit_mod_two_pow]
  by_cases h : i < 256
  · by_cases h1 : 8 * f.1 ≤ i
    · have a : ¬ i < 8 * f.1 := by omega
      have b : i - 8 * f.1 < 256 := by omega
      have c : decide (i - 8 * f.1 < 8 * f.2.1) = decide (i < 8 * f.1 + 8 * f.2.1) := by
        rw [decide_eq_decide]
        omega
      simp [h, h1, a, b, c]
    · have a : i < 8 * f.1 := by omega
      simp [h1, a]
  · simp [h]

/-- A bit of a packed beat is a bit of one of its fields. -/
theorem getLsbD_packBeat (fields : List (Nat × Nat × Nat)) (i : Nat) :
    (packBeat fields).getLsbD i = fields.any fun f => (fieldBits f).getLsbD i := by
  unfold packBeat
  induction fields with
  | nil => simp
  | cons f rest ih => rw [List.foldr_cons, BitVec.getLsbD_or, ih, List.any_cons]

/-- Bytes that no field covers are zero. -/
theorem extract_packBeat_zero {fields : List (Nat × Nat × Nat)} {offset bytes : Nat}
    (h : ∀ f ∈ fields, f.1 + f.2.1 ≤ offset ∨ offset + bytes ≤ f.1) :
    (packBeat fields).extractLsb' (8 * offset) (8 * bytes) = 0 := by
  apply BitVec.eq_of_getLsbD_eq
  intro i hi
  rw [BitVec.getLsbD_extractLsb', getLsbD_packBeat, BitVec.ofNat_eq_ofNat, BitVec.getLsbD_zero, Bool.and_eq_false_iff]
  right
  rw [List.any_eq_false]
  intro f hf
  rw [getLsbD_fieldBits]
  rcases h f hf with h' | h'
  · have : ¬ 8 * offset + i < 8 * f.1 + 8 * f.2.1 := by omega
    simp [this]
  · have : ¬ 8 * f.1 ≤ 8 * offset + i := by omega
    simp [this]

/-- A field reads as its value, cut to its bytes, where no other field covers it. -/
theorem extract_packBeat {before after : List (Nat × Nat × Nat)} {offset bytes value : Nat} (fits : offset + bytes ≤ 32)
    (h : ∀ f ∈ before ++ after, f.1 + f.2.1 ≤ offset ∨ offset + bytes ≤ f.1) :
    (packBeat (before ++ (offset, bytes, value) :: after)).extractLsb' (8 * offset) (8 * bytes) =
      BitVec.ofNat (8 * bytes) value := by
  apply BitVec.eq_of_getLsbD_eq
  intro i hi
  have other : ∀ f ∈ before ++ after, (fieldBits f).getLsbD (8 * offset + i) = false := by
    intro f hf
    rw [getLsbD_fieldBits]
    rcases h f hf with h' | h'
    · have : ¬ 8 * offset + i < 8 * f.1 + 8 * f.2.1 := by omega
      simp [this]
    · have : ¬ 8 * f.1 ≤ 8 * offset + i := by omega
      simp [this]
  have hb : (before.any fun f => (fieldBits f).getLsbD (8 * offset + i)) = false :=
    List.any_eq_false.mpr fun f hf => by simp [other f (List.mem_append_left _ hf)]
  have ha : (after.any fun f => (fieldBits f).getLsbD (8 * offset + i)) = false :=
    List.any_eq_false.mpr fun f hf => by simp [other f (List.mem_append_right _ hf)]
  rw [BitVec.getLsbD_extractLsb', getLsbD_packBeat, List.any_append, List.any_cons, hb, ha, getLsbD_fieldBits,
    BitVec.getLsbD_ofNat]
  have a : 8 * offset + i < 256 := by omega
  simp [a, hi]

/-- The field at index `n` of a packed list, read at its offset. -/
theorem extract_packBeat_at {fields : List (Nat × Nat × Nat)} (n : Nat) {offset bytes value : Nat}
    (at_n : fields[n]? = some (offset, bytes, value)) (fits : offset + bytes ≤ 32)
    (h : ∀ f ∈ fields.take n ++ fields.drop (n + 1), f.1 + f.2.1 ≤ offset ∨ offset + bytes ≤ f.1) :
    (packBeat fields).extractLsb' (8 * offset) (8 * bytes) = BitVec.ofNat (8 * bytes) value := by
  obtain ⟨hn, e⟩ := List.getElem?_eq_some_iff.mp at_n
  have split : fields = fields.take n ++ (offset, bytes, value) :: fields.drop (n + 1) := by
    rw [← e]
    simp
  rw [split]
  exact extract_packBeat fits h

/-! ### Command records -/

/-- The code of a record written for a code is that code. -/
theorem recordCode_commandRecord (code : Byte) (body : RecordBody) : recordCode (commandRecord code body) = code := by
  apply BitVec.eq_of_getLsbD_eq
  intro i hi
  rw [recordCode, byteAt, BitVec.getLsbD_extractLsb', commandRecord, BitVec.getLsbD_append]
  simp [hi]

/-! ### The bits a code reads (Table 11-3) -/

/-- The bits of one mask field. -/
theorem getLsbD_maskField (first count i : Nat) :
    (BitVec.ofNat 256 ((2 ^ count - 1) * 2 ^ first)).getLsbD i =
      (decide (i < 256) && decide (first ≤ i) && decide (i < first + count)) := by
  rw [BitVec.getLsbD_ofNat, Nat.testBit_mul_two_pow, Nat.testBit_two_pow_sub_one]
  by_cases h : first ≤ i
  · have : decide (i - first < count) = decide (i < first + count) := by
      rw [decide_eq_decide]
      omega
    simp [h, this]
  · simp [h]

/-- A code reads the bits of its fields and no other. -/
theorem getLsbD_readMask (code : Byte) (i : Nat) :
    (readMask code).getLsbD i =
      (decide (i < 256) && (fieldsRead code).any fun f => decide (f.1 ≤ i) && decide (i < f.1 + f.2)) := by
  have fold : ∀ (fields : List (Nat × Nat)) (m : Beat),
      (fields.foldl (fun m f => m ||| BitVec.ofNat 256 ((2 ^ f.2 - 1) * 2 ^ f.1)) m).getLsbD i =
        (m.getLsbD i || (decide (i < 256) && fields.any fun f => decide (f.1 ≤ i) && decide (i < f.1 + f.2))) := by
    intro fields
    induction fields with
    | nil => simp
    | cons f rest ih =>
      intro m
      rw [List.foldl_cons, ih, BitVec.getLsbD_or, getLsbD_maskField, List.any_cons]
      cases m.getLsbD i <;> cases decide (i < 256) <;> simp
  rw [readMask, fold]
  simp

/-- A record has a reserved bit set exactly when some bit that its code does not read is set (R185). -/
theorem reservedNonzero_iff (r : Beat) :
    reservedNonzero r = true ↔ ∃ i : Fin 256, r.getLsbD i.val = true ∧ (readMask (recordCode r)).getLsbD i.val = false := by
  unfold reservedNonzero
  rw [bne_iff_ne, ne_eq, BitVec.eq_of_getLsbD_eq_iff, not_forall]
  constructor
  · rintro ⟨i, h⟩
    rw [Classical.not_imp, BitVec.getLsbD_and, BitVec.getLsbD_not] at h
    obtain ⟨hi, h⟩ := h
    refine ⟨⟨i, hi⟩, ?_⟩
    show r.getLsbD i = true ∧ (readMask (recordCode r)).getLsbD i = false
    rw [BitVec.getLsbD_eq_getElem hi, BitVec.getLsbD_eq_getElem hi]
    simpa [hi] using h
  · rintro ⟨i, h1, h2⟩
    refine ⟨i.val, ?_⟩
    rw [Classical.not_imp, BitVec.getLsbD_and, BitVec.getLsbD_not, h1, h2]
    simp [i.isLt]

end Sys2Proof.Machine
end

