-- ==== Sys2Proof/Laws/Ops.lean ====
section
/-!
SUPPORT. What each shared operation changes, as one equation per field it changes, in the terms of one lease record where a record
is changed.
-/

namespace Sys2Proof.Machine

variable (s : State)

/-! ### Tables -/

/-- Writing back what stands changes nothing. -/
@[simp] theorem set_lease_self (l : LeaseId) : s.leases.set l.val (s.lease l) = s.leases := by simp [State.lease]

@[simp] theorem set_timer_self (l : LeaseId) : s.timers.set l.val (s.timer l) = s.timers := by simp [State.timer]

@[simp] theorem set_port_self (p : PortId) : s.ports.set p.val (s.port p) = s.ports := by simp [State.port]

theorem lease_of_set {t : State} {l : LeaseId} {r : Lease} (h : t.leases = s.leases.set l.val r) (l' : LeaseId) :
    t.lease l' = if l = l' then r else s.lease l' := by
  simp only [State.lease, h, Vector.getElem_set, Fin.ext_iff]

theorem timer_of_set {t : State} {l : LeaseId} {r : PeriodTimer} (h : t.timers = s.timers.set l.val r) (l' : LeaseId) :
    t.timer l' = if l = l' then r else s.timer l' := by
  simp only [State.timer, h, Vector.getElem_set, Fin.ext_iff]

theorem lease_congr {t : State} (h : t.leases = s.leases) (l : LeaseId) : t.lease l = s.lease l := by simp only [State.lease, h]

theorem timer_congr {t : State} (h : t.timers = s.timers) (l : LeaseId) : t.timer l = s.timer l := by simp only [State.timer, h]

@[simp] theorem leases_setLease (l : LeaseId) (r : Lease) : (s.setLease l r).leases = s.leases.set l.val r := rfl

@[simp] theorem timers_setTimer (l : LeaseId) (t : PeriodTimer) : (s.setTimer l t).timers = s.timers.set l.val t := rfl

@[simp] theorem ports_setPort (p : PortId) (u : Port) : (s.setPort p u).ports = s.ports.set p.val u := rfl

@[simp] theorem tags_setTag (t : TagId) (v : Tag) : (s.setTag t v).tags = s.tags.set t.val v := rfl

@[simp] theorem holdQueues_setHoldQueue (l : LeaseId) (q : List HeldEntry) :
    (s.setHoldQueue l q).holdQueues = s.holdQueues.set l.val q := rfl

@[simp] theorem releases_setRelease (l : LeaseId) (r : ReleaseState) : (s.setRelease l r).releases = s.releases.set l.val r := rfl

@[simp] theorem setLease_setLease (l : LeaseId) (r r' : Lease) : (s.setLease l r).setLease l r' = s.setLease l r' := by
  simp [State.setLease]

@[simp] theorem setLease_lease (l : LeaseId) : s.setLease l (s.lease l) = s := by simp [State.setLease]

/-! ### Reasons (R10, R178) -/

theorem Reason.mask_ne_zero (r : Reason) : r.mask ≠ 0 := by cases r <;> decide

/-- A record on which a reason is raised holds an empty reason set only if the reason does not join and none stood. -/
theorem Lease.raised_eq_zero (x : Lease) (r : Reason) :
    x.raised r = 0 ↔ x.reasons = 0 ∧ x.notify &&& r.mask = 0 := by
  unfold Lease.raised
  have := r.mask_ne_zero
  by_cases h : x.notify &&& r.mask = 0
  · simp only [h, if_true, and_true]
  · simp only [h, if_false, and_false, iff_false]
    exact fun e => this (BitVec.or_eq_zero_iff.mp e).2

/-- All that a raising does (R10, R178): the reason set, the attention set and the interrupt status. -/
theorem raiseReason_eq (l : LeaseId) (r : Reason) :
    raiseReason l r s = { s with
      leases := s.leases.set l.val { s.lease l with reasons := (s.lease l).raised r }
      attention := s.attentionAfter l ((s.lease l).raised r)
      intStatus := s.statusAfter l ((s.lease l).raised r) } := by
  unfold raiseReason State.attentionAfter State.statusAfter
  simp only [ne_eq, Lease.raised_eq_zero]
  by_cases h : (s.lease l).notify &&& r.mask = 0
  · have : ¬ ((s.lease l).reasons = 0 ∧ ¬ ((s.lease l).reasons = 0)) := by tauto
    simp only [h, if_true, Lease.raised, and_true, this, if_false]
    rw [set_lease_self]
  · by_cases h0 : (s.lease l).reasons = 0
    · simp only [h, h0, if_false, if_true, Lease.raised, and_false, not_false_eq_true, and_self, joinAttention, setSource,
        attentionBit, Source.mask, State.setLease]
      have e : (0 : ReasonSet) ||| r.mask = r.mask := BitVec.zero_or
      rw [e]
    · simp only [h, h0, if_false, Lease.raised, false_and, State.setLease]

/-- A reason set after a raising. -/
theorem raiseReason_leases (l : LeaseId) (r : Reason) :
    (raiseReason l r s).leases = s.leases.set l.val { s.lease l with reasons := (s.lease l).raised r } := by
  rw [raiseReason_eq]

/-- The attention set after a raising: the lease joins when a reason joins its empty reason set. -/
theorem raiseReason_attention (l : LeaseId) (r : Reason) :
    (raiseReason l r s).attention = s.attentionAfter l ((s.lease l).raised r) := by
  rw [raiseReason_eq]

/-- The interrupt status after a raising. -/
theorem raiseReason_intStatus (l : LeaseId) (r : Reason) :
    (raiseReason l r s).intStatus = s.statusAfter l ((s.lease l).raised r) := by
  rw [raiseReason_eq]

/-- A raising on one lease leaves the attention bits of the others. -/
theorem attentionAfter_ne {l l' : LeaseId} (h : l ≠ l') (after : ReasonSet) :
    (s.attentionAfter l after).getLsbD l'.val = s.attention.getLsbD l'.val := by
  unfold State.attentionAfter
  split
  · have := getLsbD_attentionBit l l'
    unfold attentionBit at this
    rw [BitVec.getLsbD_or, this, decide_eq_false h, Bool.or_false]
  · rfl

/-- The attention bit of the lease after a raising. -/
theorem attentionAfter_self (l : LeaseId) (after : ReasonSet) :
    (s.attentionAfter l after).getLsbD l.val =
      (s.attention.getLsbD l.val || decide ((s.lease l).reasons = 0 ∧ after ≠ 0)) := by
  unfold State.attentionAfter
  have := getLsbD_attentionBit l l
  unfold attentionBit at this
  split
  · rename_i h
    rw [BitVec.getLsbD_or, this, decide_eq_true h, decide_eq_true rfl]
  · rw [decide_eq_false ‹_›, Bool.or_false]

theorem raiseReason_attention_ne {l l' : LeaseId} (h : l ≠ l') (r : Reason) :
    (raiseReason l r s).attention.getLsbD l'.val = s.attention.getLsbD l'.val := by
  rw [raiseReason_attention, attentionAfter_ne _ h]

/-! ### Faults and falls of outstanding on a record (R8, R19, R123) -/

/-- All that counting a memory fault does. -/
theorem countFault_eq (l : LeaseId) :
    countFault l s = { s with
      leases := s.leases.set l.val (s.lease l).faulted
      attention := s.attentionAfter l ((s.lease l).raised .fault)
      intStatus := s.statusAfter l ((s.lease l).raised .fault) } := by
  rw [countFault, raiseReason_eq]
  simp only [State.attentionAfter, State.statusAfter, Lease.raised, lease_setLease_self, Lease.countFault, Lease.faulted, satAdd32,
    leases_setLease, Vector.set_set]
  rfl

theorem countFault_leases (l : LeaseId) : (countFault l s).leases = s.leases.set l.val (s.lease l).faulted := by
  rw [countFault_eq]

theorem countFault_attention_ne {l l' : LeaseId} (h : l ≠ l') :
    (countFault l s).attention.getLsbD l'.val = s.attention.getLsbD l'.val := by
  rw [countFault, raiseReason_attention_ne _ h, setLease_attention]

/-- All that a drain completion does. -/
theorem drainCompletion_eq (l : LeaseId) :
    drainCompletion l s = { s with
      leases := s.leases.set l.val (s.lease l).drained
      timers := s.timers.set l.val (s.timer l).drained
      attention := s.attentionAfter l ((s.lease l).raised .freed)
      intStatus := s.statusAfter l ((s.lease l).raised .freed) } := by
  rw [drainCompletion, raiseReason_eq]
  simp only [State.attentionAfter, State.statusAfter, Lease.raised, lease_setTimer, lease_setLease_self, Lease.drained,
    Lease.freeRecord, PeriodTimer.drained, setTimer_leases, leases_setLease, Vector.set_set]
  rfl

theorem drainCompletion_leases (l : LeaseId) : (drainCompletion l s).leases = s.leases.set l.val (s.lease l).drained := by
  rw [drainCompletion_eq]

theorem drainCompletion_timers (l : LeaseId) :
    (drainCompletion l s).timers = s.timers.set l.val (s.timer l).drained := by
  rw [drainCompletion_eq]

theorem drainCompletion_attention_ne {l l' : LeaseId} (h : l ≠ l') :
    (drainCompletion l s).attention.getLsbD l'.val = s.attention.getLsbD l'.val := by
  rw [drainCompletion_eq]
  exact attentionAfter_ne _ h _

/-- All that a fall of outstanding does: the fall on the record; the timer at 0, FREED in the attention set and ATTENTION when it
drains the lease. -/
theorem fallOutstanding_eq (l : LeaseId) :
    fallOutstanding l s = { s with
      leases := s.leases.set l.val (s.lease l).fallen
      timers := if (s.lease l).state = .draining ∧ (s.lease l).outstanding = 1 then s.timers.set l.val (s.timer l).drained
        else s.timers
      attention := s.attentionAfter l ((s.lease l).fallen).reasons
      intStatus := s.statusAfter l ((s.lease l).fallen).reasons } := by
  unfold fallOutstanding Lease.fallen completeIfDrained
  by_cases h : (s.lease l).outstanding = 0
  · simp [h, State.attentionAfter, State.statusAfter]
  · simp only [lease_setLease_self]
    have e : (s.lease l).outstanding - 1 = 0 ↔ (s.lease l).outstanding = 1 := by omega
    by_cases hd : (s.lease l).state = .draining ∧ (s.lease l).outstanding = 1
    · simp [hd, drainCompletion_eq, Lease.drained, Lease.freeRecord, State.attentionAfter, State.statusAfter, Lease.raised,
        PeriodTimer.drained]
    · simp [h, hd, e, State.attentionAfter, State.statusAfter, State.setLease]

/-- A fall of outstanding is the fall on the record. -/
theorem fallOutstanding_leases (l : LeaseId) : (fallOutstanding l s).leases = s.leases.set l.val (s.lease l).fallen := by
  rw [fallOutstanding_eq]

/-- The timer stops at 0 when the fall drains the lease, and stands otherwise. -/
theorem fallOutstanding_timers (l : LeaseId) :
    (fallOutstanding l s).timers =
      if (s.lease l).state = .draining ∧ (s.lease l).outstanding = 1 then s.timers.set l.val (s.timer l).drained
      else s.timers := by
  rw [fallOutstanding_eq]

theorem fallOutstanding_attention_ne {l l' : LeaseId} (h : l ≠ l') :
    (fallOutstanding l s).attention.getLsbD l'.val = s.attention.getLsbD l'.val := by
  rw [fallOutstanding_eq]
  exact attentionAfter_ne _ h _

/-- A fall on a lease that is not DRAINING is a decrease of its count. -/
theorem fallOutstanding_of_not_draining {l : LeaseId} (h : (s.lease l).state ≠ .draining) :
    fallOutstanding l s = s.setLease l { s.lease l with outstanding := (s.lease l).outstanding - 1 } := by
  unfold fallOutstanding completeIfDrained
  split
  · rename_i h0
    have : ({ s.lease l with outstanding := (s.lease l).outstanding - 1 } : Lease) = s.lease l := by
      rw [h0, Nat.zero_sub, ← h0]
    rw [this, setLease_lease]
  · simp [h]

/-- Falls add up on the record. -/
theorem Lease.fallenBy_succ (r : Lease) (n : Nat) : (r.fallen).fallenBy n = r.fallenBy (n + 1) := by
  unfold Lease.fallen Lease.fallenBy
  by_cases h0 : r.outstanding = 0
  · simp [h0]
  · by_cases h1 : r.state = .draining ∧ r.outstanding = 1
    · have h2 : r.state = .draining ∧ 0 < r.outstanding ∧ r.outstanding ≤ n + 1 := ⟨h1.1, by omega, by omega⟩
      simp [h1, Lease.drained, Lease.freeRecord]
    · have e : r.state = .draining ∧ 0 < r.outstanding - 1 ∧ r.outstanding - 1 ≤ n ↔
          r.state = .draining ∧ 0 < r.outstanding ∧ r.outstanding ≤ n + 1 := by
        constructor
        · rintro ⟨a, b, c⟩
          exact ⟨a, by omega, by omega⟩
        · rintro ⟨a, b, c⟩
          have : r.outstanding ≠ 1 := fun h => h1 ⟨a, h⟩
          exact ⟨a, by omega, by omega⟩
      simp only [h0, h1, if_false, e]
      have : r.outstanding - 1 - n = r.outstanding - (n + 1) := by omega
      simp only [Lease.drained, Lease.raised, this]

@[simp] theorem Lease.fallenBy_zero (r : Lease) : r.fallenBy 0 = r := by
  unfold Lease.fallenBy
  rw [if_neg (by omega)]
  rfl

/-! ### Triggers -/

theorem handTriggerIf_eq (b : Bool) : handTriggerIf b s = if b then handTrigger s else s := rfl

theorem releaseTrigger_releases (l : LeaseId) :
    (releaseTrigger l s).releases =
      if (s.lease l).state = .opened ∧ s.holdQueue l ≠ [] then s.releases.set l.val .running else s.releases := by
  unfold releaseTrigger
  split <;> rfl

@[simp] theorem lease_takeTriggers (l : LeaseId) : (takeTriggers s).lease l = s.lease l := rfl

@[simp] theorem timer_takeTriggers (l : LeaseId) : (takeTriggers s).timer l = s.timer l := rfl

@[simp] theorem slot_takeTriggers (p : PortId) (t : StreamTag) : (takeTriggers s).slot p t = s.slot p t := rfl

@[simp] theorem holdQueue_takeTriggers (l : LeaseId) : (takeTriggers s).holdQueue l = s.holdQueue l := rfl

@[simp] theorem release_takeTriggers (l : LeaseId) : (takeTriggers s).release l = s.release l := rfl

@[simp] theorem tag_takeTriggers (t : TagId) : (takeTriggers s).tag t = s.tag t := rfl

theorem port_takeTriggers (p : PortId) :
    (takeTriggers s).port p = (s.port p).takeTriggers ((s.delayed.headD []).count p) := by
  simp [State.port, takeTriggers]

/-- All that a port unit changes by taking triggers: the number on the way, and a BLOCKED head when it takes one. -/
theorem Port.takeTriggers_eq (u : Port) (left : Nat) :
    u.takeTriggers left = { u with
      triggers := min left u.triggers
      head := if left < u.triggers ∧ u.head = .blocked then .examining else u.head } := by
  unfold Port.takeTriggers
  by_cases h : u.triggers ≤ left
  · have : ¬ left < u.triggers := by omega
    simp [h, this]
  · have h1 : left < u.triggers := by omega
    have h2 : left ≤ u.triggers := by omega
    cases hh : u.head <;> simp [h, h1, h2]

/-! ### Ports (R69, R70) -/

/-- Accepting keeps every request, in order. -/
theorem acceptWaiting_requests (w : List PortRequest) (u : Port) :
    (acceptWaiting w u).fifo ++ (acceptWaiting w u).link = u.fifo ++ w := by
  induction w generalizing u with
  | nil => simp [acceptWaiting]
  | cons r rest ih =>
    unfold acceptWaiting
    split
    · rw [ih]
      unfold Port.accept
      split <;> simp_all
    · rfl

/-- Accepting keeps the stall limit, and the head with its timer and examined lease when there is one. -/
theorem acceptWaiting_head (w : List PortRequest) (u : Port) :
    (acceptWaiting w u).stallLimit = u.stallLimit ∧
      (u.fifo ≠ [] → (acceptWaiting w u).fifo ≠ [] ∧ (acceptWaiting w u).head = u.head ∧
        (acceptWaiting w u).stallTimer = u.stallTimer ∧ (acceptWaiting w u).examined = u.examined) := by
  induction w generalizing u with
  | nil => simp [acceptWaiting]
  | cons r rest ih =>
    unfold acceptWaiting
    split
    · obtain ⟨h1, h2⟩ := ih (u.accept r)
      unfold Port.accept at *
      split at h1 <;> simp_all
    · simp

/-- Accepting stops with an empty link or a full FIFO. -/
theorem acceptWaiting_full (w : List PortRequest) (u : Port) :
    (acceptWaiting w u).link = [] ∨ Config.fifoDepth ≤ (acceptWaiting w u).fifo.length := by
  induction w generalizing u with
  | nil => simp [acceptWaiting]
  | cons r rest ih =>
    unfold acceptWaiting
    split
    · exact ih _
    · right
      simp_all

/-- Accepting never makes a FIFO longer than 8 that was not. -/
theorem acceptWaiting_length (w : List PortRequest) (u : Port) (h : u.fifo.length ≤ Config.fifoDepth) :
    (acceptWaiting w u).fifo.length ≤ Config.fifoDepth := by
  induction w generalizing u with
  | nil => simpa [acceptWaiting] using h
  | cons r rest ih =>
    unfold acceptWaiting
    split
    · apply ih
      unfold Port.accept
      split
      · simp [Config.fifoDepth]
      · simp only [List.length_append, List.length_singleton]
        omega
    · exact h

/-! ### The engine -/

theorem haltEngine_engine (c : FaultCause) :
    (haltEngine c s).engine =
      match s.engine.state with
      | .busy step _ _ => { s.engine with
          state := .halted
          fetch := s.engine.complete
          fault := { slot := s.engine.complete, step := step.faultStep, cause := c } }
      | _ => s.engine := by
  unfold haltEngine
  split <;> simp_all [setSource]

/-- The engine's fetch, when it stands. -/
theorem fetchInFlight_of_stands {s : State} {t : TagId} {f : IssuedTag} {sp : Bool} (h : FetchStands s t f sp) :
    fetchInFlight s = some (t, f, sp) := by
  have hex : ∀ (ts : List TagId), t ∈ ts → (ts.findSome? fun u =>
      match s.tag u with
      | .issued g => if g.origin = .engine then some (u, g, sp) else none
      | .free => none
      | .orphaned => none) = some (t, f, sp) := by
    intro ts
    induction ts with
    | nil => simp
    | cons u us ih =>
      intro hm
      rw [List.findSome?_cons]
      by_cases hu : u = t
      · subst hu
        simp [h.tag, h.ofEngine]
      · have hne := h.alone u hu
        have : t ∈ us := by
          rcases List.mem_cons.mp hm with h' | h'
          · exact absurd h'.symm hu
          · exact h'
        cases hg : s.tag u with
        | free => simpa [hg] using ih this
        | orphaned => simpa [hg] using ih this
        | issued g =>
          have : g.origin ≠ .engine := by
            intro ho
            simp [hg, Tag.isEngine, ho, Origin.isEngine] at hne
          simpa [hg, this] using ih ‹t ∈ us›
  unfold fetchInFlight
  simp only [h.up, h.busy]
  exact hex _ (List.mem_finRange t)

/-- The end of the engine's tag when its fetch is answered OK. -/
theorem freeTag_of_stands {s : State} {t : TagId} {f : IssuedTag} {sp : Bool} (h : FetchStands s t f sp) :
    freeTag t f s = fetchEnded s t := by
  have : ((s.setTag t .free).lease f.lease).state ≠ .draining := by simp [h.ofLeaseZero, h.opened]
  rw [freeTag, fallOutstanding_of_not_draining _ this]
  simp [fetchEnded, h.ofLeaseZero]

/-- The claim that answers the engine's fetch: the tag ends, then the record is executed. -/
theorem answerFetch_of_stands {s : State} {t : TagId} {f : IssuedTag} {sp : Bool} (h : FetchStands s t f sp) (r : Beat)
    (take : Beat → State → Taken) : answerFetch r take s = executeFetched r take sp (fetchEnded s t) := by
  simp [answerFetch, fetchInFlight_of_stands h, freeTag_of_stands h]

/-- A command that carries no snapshot and leaves the engine's fields alone ends as `commandTaken` says. -/
theorem executeFetched_eq (r : Beat) (take : Beat → State → Taken) (sp : Bool) (n : Nat) (st : CommandStatus) (u : State)
    (h : take r s = { status := st, result := BitVec.ofNat 32 n, snapshot := none, state := u }) :
    executeFetched r take sp s = commandTaken u r st n sp := by
  simp [executeFetched, h, stepAfter, commandTaken, Engine.next]

/-- While the engine has no fetch at the memory side, no command is taken. -/
theorem answerFetch_none {r : Beat} {take : Beat → State → Taken} (h : fetchInFlight s = none) : answerFetch r take s = s := by
  simp [answerFetch, h]

/-- The end of the fetch touches no record but lease 0's. -/
theorem lease_fetchEnded_ne (s : State) (t : TagId) {l : LeaseId} (h : l ≠ 0) : (fetchEnded s t).lease l = s.lease l := by
  simp [fetchEnded, lease_setLease, Ne.symm h]

/-- The end of the fetch changes no lease's state. -/
theorem state_fetchEnded (s : State) (t : TagId) (l : LeaseId) : ((fetchEnded s t).lease l).state = (s.lease l).state := by
  simp only [fetchEnded, lease_setLease]
  split <;> simp_all

/-- Active is OPEN or SUSPENDED. -/
theorem active_iff (r : Lease) : r.active = true ↔ r.state = .opened ∨ r.state = .suspended := by
  unfold Lease.active
  split <;> simp_all

/-! ### Laws told by cases -/

/-- The lease-state law, one lease state at a time. -/
theorem leaseStateLaw_of_cases (s : State)
    (h : ∀ l : LeaseId,
      ((s.lease l).state = .free → s.lease l = Lease.freeRecord (s.lease l).notify (s.lease l).reasons ∧
        s.timer l = { count := 0, running := false, raised := 0 }) ∧
      ((s.lease l).state = .draining → (s.lease l).drainCause ≠ none ∧ 0 < (s.lease l).outstanding ∧
        (s.timer l).running = false ∧ (s.timer l).raised = 0) ∧
      ((s.lease l).state = .opened ∨ (s.lease l).state = .suspended →
        (s.lease l).drainCause = none ∧ (s.timer l).running = true)) : LeaseStateLaw s := by
  intro l
  obtain ⟨hf, hd, ho⟩ := h l
  split
  · exact hf ‹_›
  · exact hd ‹_›
  · exact ho (.inl ‹_›)
  · exact ho (.inr ‹_›)

/-- The regime law, one class and regime at a time. -/
theorem regimeLaw_of_cases (s : State)
    (h : ∀ l : LeaseId,
      ((s.lease l).cls = .shared →
        1 ≤ (s.lease l).reviewSpan ∧ (s.lease l).reviewSpan ≤ 63 ∧ 1 ≤ (s.lease l).curbLength ∧ (s.lease l).curbLength ≤ 63 ∧
        (s.lease l).reviewAccumulator ≤ Config.max32 ∧ (s.lease l).carryLimit = 0 ∧ (s.lease l).overdrawPermitted = false) ∧
      ((s.lease l).cls = .shared → (s.lease l).regime = .watch → (s.lease l).curbRemaining = 0 ∧ 1 ≤ (s.lease l).reviewCounter ∧
        (s.lease l).reviewCounter ≤ (s.lease l).reviewSpan) ∧
      ((s.lease l).cls = .shared → (s.lease l).regime = .curb → (s.lease l).reviewCounter = 0 ∧ 1 ≤ (s.lease l).curbRemaining ∧
        (s.lease l).curbRemaining ≤ (s.lease l).curbLength) ∧
      ((s.lease l).cls ≠ .shared →
        (s.lease l).regime = .watch ∧ (s.lease l).reviewAccumulator = 0 ∧ (s.lease l).reviewCounter = 0 ∧
        (s.lease l).curbRemaining = 0 ∧ (s.lease l).watchThreshold = 0 ∧ (s.lease l).reviewSpan = 0 ∧
        (s.lease l).curbLength = 0)) : RegimeLaw s := by
  intro l
  obtain ⟨hs, hw, hc, hn⟩ := h l
  split
  · rename_i e
    obtain ⟨a, b, c, d, f, g, i⟩ := hs e
    refine ⟨a, b, c, d, f, g, i, ?_⟩
    split
    · exact hw e ‹_›
    · exact hc e ‹_›
  · rename_i e
    exact hn (by simp [e])
  · rename_i e
    exact hn (by simp [e])

end Sys2Proof.Machine
end

