-- ==== Sys2Proof/Tests/Slice0.lean ====
section
/-!
SUPPORT. Tests on small states: rows of the manual's worked examples and boundary values, and a state that meets the hypotheses of
each statement of Sys2Proof/Certificates/Slice0/Obligations.lean.
-/

namespace Sys2Proof.Tests

open Sys2Proof.Machine

set_option maxRecDepth 100000
set_option Elab.async false

/-! ### Helpers -/

/-- The state after a command; no command stops. -/
def after (c : Instr) (s : State) : State :=
  match exec c s with
  | .next t => t
  | .fault _ => s
  | .refused _ => s

/-- The state after a step; no step stops. -/
def stepped (s : State) : State :=
  match step s with
  | .next t => t
  | .fault _ => s
  | .refused _ => s

/-- Bytes 1 to 31 of a record with the listed fields (offset, bytes, value). -/
def body (fields : List (Nat × Nat × Nat)) : RecordBody := (packBeat fields).extractLsb' 8 248

/-- Status and result of the command whose completion the engine presents. -/
def outcome (s : State) : Option (CommandStatus × Nat) :=
  match s.engine.state with
  | .busy (.completion c) .presented _ => some (c.status, c.result.toNat)
  | _ => none

/-- A READ request of stream tag 0. -/
def readOf (id : Byte) (address : Address) (length : Fin 32) : PortRequest :=
  { tag := 0, direction := .read, address := address, length := length, clientId := id, data := [] }

/-- A READ of a port as it stands in a hold queue. -/
def heldRead (p : PortId) (id : Byte) (length : Nat) : HeldEntry :=
  { port := p, clientId := id, direction := .read, address := 0, length := length, data := [] }

/-- A READ of a port as it stands in a dispatch queue. -/
def entryOf (l : LeaseId) (p : PortId) (id : Byte) (length : Nat) : DispatchEntry :=
  { lease := l, origin := .client p id, direction := .read, address := 0, length := length, data := [] }

/-- A READ of a port under an ISSUED tag. -/
def tagOf (l : LeaseId) (p : PortId) (id : Byte) (length timer : Nat) : IssuedTag :=
  { lease := l, origin := .client p id, direction := .read, length := length, muted := false, timer := timer }

/-- An OPEN lease of a class with budget and credit. -/
def openLease (cls : LeaseClass) (k budget credit spent : Nat) : Lease :=
  { Lease.freeRecord 0 0 with state := .opened, cls := cls, k := k, budget := budget, credit := credit, spent := spent }

/-- Lease `l` holds a record, its timer runs. -/
def withLease (l : LeaseId) (r : Lease) (s : State) : State :=
  (s.setLease l r).setTimer l { count := 0, running := true, raised := 0 }

/-- The engine's READ of one record, ISSUED on lease 0. -/
def engineTag : IssuedTag :=
  { lease := 0, origin := .engine, direction := .read, length := 1, muted := false, timer := 0 }

/-- Power-on values with the link LINK_UP. -/
def up : State := { State.reset with link := .up, readyLevel := true }

/-- The engine's fetch of slot 0 stands under tag 0; leases 5 (GUARANTEED, bound to P0 tag 0), 6 (SHARED in CURB, CURBED raised,
bound to P0 tag 1), 7 (DRAINING, one entry queued, one tag ISSUED), 8 (SUSPENDED, term 3, one request held), 9 (FREE, FREED
raised). -/
def ringState : State :=
  let s := withLease 5 { openLease .guaranteed 4 1000 1000 0 with boundSlots := 1 } up
  let s := withLease 6 { openLease .shared 4 64 64 0 with
    watchThreshold := 600, reviewSpan := 4, curbLength := 2, regime := .curb, reviewAccumulator := 630, curbRemaining := 2,
    notify := Reason.curbed.mask, reasons := Reason.curbed.mask, boundSlots := 1 } s
  let s := s.setLease 7 { openLease .capped 0 32 32 32 with
    state := .draining, drainCause := some .retired, outstanding := 2, notify := Reason.freed.mask }
  let s := withLease 8 { openLease .capped 0 32 32 32 with
    state := .suspended, term := 3, periodsRemaining := 3, holdLimit := 2, heldCount := 1, heldTotal := 1 } s
  let s := s.setLease 9 (Lease.freeRecord 0 Reason.freed.mask)
  let s := (s.setSlot 0 0 (some 5)).setSlot 0 1 (some 6)
  { (s.setHoldQueue 8 [heldRead 1 3 8]).setLease 0 { Lease.engineRecord with spent := 1, outstanding := 1 } with
    poolFree := 95
    committed := 65536 + 256000
    attention := attentionBit 6 ||| attentionBit 9
    intStatus := Source.attention.mask
    sQueue := [entryOf 7 2 20 16]
    tags := (State.reset.tags.set 0 (.issued engineTag)).set 1 (.issued (tagOf 7 2 21 16 0))
    engine := { Engine.powerOn with submit := 3, state := .busy .fetch .issued false } }

/-! ### Well-formedness and the table's words -/

/-- Every check of `Instr.wellFormed` refuses an ill-formed command and takes the nearest well-formed one. -/
theorem test_wellFormed_smoke :
    (Instr.registerWrite 0x01C 3).wellFormed = false ∧ (Instr.registerWrite 0x039 3).wellFormed = false ∧
    (Instr.registerWrite 0x000 1).wellFormed = false ∧ (Instr.registerWrite 0x000 7).wellFormed = true ∧
    (Instr.registerWrite 0x038 3).wellFormed = true ∧
    (Instr.requestArrival 0 { readOf 0 0 2 with direction := .write, data := [0] }).wellFormed = false ∧
    (Instr.requestArrival 0 { readOf 0 0 2 with direction := .write, data := [0, 0] }).wellFormed = true ∧
    (Instr.requestArrival 0 { readOf 0 0 2 with data := [0] }).wellFormed = false ∧
    (Instr.memoryResponse 0 .ok (List.replicate 17 0)).wellFormed = false ∧
    (Instr.memoryResponse 0 .error [0]).wellFormed = false ∧ (Instr.memoryResponse 0 .ok [0]).wellFormed = true ∧
    (Instr.unknownCommandCode 11 0).wellFormed = false ∧ (Instr.unknownCommandCode 12 0).wellFormed = true := by decide

/-- No row of the table gives bits, so no word spells a command. -/
theorem test_table_words : decodeTableWord 8 0 = none ∧ State.reset.withFetchWord 8 0 = State.reset := ⟨rfl, rfl⟩

/-! ### The states the statements speak of are met -/

/-- The state-law hypotheses of the statements `AttentionLawIsKept` to `SafeStateIsKept` are met together by a state with work in every
place, from which a step goes on. -/
theorem witness_safeState : SafeState ringState ∧ ∃ t : State, step ringState = .next t := by
  refine ⟨?_, _, rfl⟩
  refine ⟨?_, ?_, ?_, ?_, ?_, ?_, ?_, ?_, ?_, ?_, ?_, ?_, ?_, ?_, ?_, ?_, ?_⟩
  iterate 9 · decide +kernel
  · show (_ ∧ _ ∧ _ ∧ _ ∧ _ ∧ (ringState.engine.complete = ringState.engine.fetch ∧
      ringState.engine.submit ≠ ringState.engine.complete))
    decide +kernel
  · show (_ = (1 - 1) ∧ _ = 1 ∧ _)
    decide +kernel
  iterate 2 · decide +kernel
  · exact leaseStateLaw_of_cases ringState (by decide +kernel)
  · decide +kernel
  · exact regimeLaw_of_cases ringState (by decide +kernel)
  · decide +kernel

/-- The hypotheses shared by the statements about ring rows are met. -/
theorem witness_fetchStands : FetchStands ringState 0 engineTag false :=
  ⟨rfl, rfl, rfl, rfl, by decide +kernel, rfl, rfl, by decide⟩

/-! ### Resets -/

/-- A port whose client keeps a request, and a ready level held: both are taken at the release of the reset input. -/
theorem test_powerOnReset :
    let s := { (ringState.setPort 3 { Port.powerOn with
      fifo := [readOf 1 0 1], head := .examining, stallLimit := 9, link := [readOf 2 0 1] }) with intEnable := 63, capacity := 5 }
    let t := after .powerOnReset s
    (t.port 3).fifo = [readOf 2 0 1] ∧ (t.port 3).head = .examining ∧ (t.port 3).stallLimit = 0 ∧ t.link = .up ∧
      t.intEnable = 0 ∧ t.capacity = 1048576 ∧ t.lease 0 = Lease.engineRecord ∧ t.lease 5 = Lease.freeRecord 0 0 := by decide +kernel

/-- An ISSUED tag becomes ORPHANED; INT_ENABLE and the ring base stay; leases, sources and the attention set do not. -/
theorem test_softReset :
    let t := after .softReset { ringState with intEnable := 5, engine := { ringState.engine with ringBase := 0x1000 } }
    t.tag 0 = .orphaned ∧ t.tag 1 = .orphaned ∧ t.tag 2 = .free ∧ t.intEnable = 5 ∧ t.engine.ringBase = 0x1000 ∧
      t.engine.state = .stopped ∧ t.lease 7 = Lease.freeRecord 0 0 ∧ t.attention = 0 ∧ t.intStatus = 0 ∧ t.committed = 65536 ∧
      t.link = .up ∧ t.sent = [] := by decide +kernel

/-- Lease 7's last two pieces are one entry and one tag: the tag's end leaves it DRAINING; the engine halts with MEMORY_ABORT. -/
theorem test_memoryPortReset :
    let t := after .memoryPortReset ringState
    t.tag 0 = .free ∧ t.tag 1 = .free ∧ t.link = .down ∧ t.memoryOut = [.resetSignal] ∧
      t.sent = [{ port := 2, clientId := 21, status := .aborted, data := [] }] ∧ (t.lease 7).outstanding = 1 ∧
      (t.lease 7).state = .draining ∧ t.engine.state = .halted ∧
      t.engine.fault = { slot := 0, step := .fetch, cause := .memoryAbort } ∧ t.intStatus = 0b100101#6 := by decide +kernel

/-- A DRAINING lease whose only work is an ISSUED tag becomes FREE (the clause of `MemoryPortResetEndsEveryTag` on a drain that ends);
FREED is raised. -/
theorem test_memorySideReset :
    let s := { ringState.setLease 7 { ringState.lease 7 with outstanding := 1 } with sQueue := [] }
    let t := after .memorySideReset s
    ((s.lease 7).state = .draining ∧ 0 < (s.lease 7).outstanding ∧ (s.lease 7).outstanding ≤ s.tags.toList.countP (Tag.names 7)) ∧
      t.lease 7 = Lease.freeRecord Reason.freed.mask Reason.freed.mask ∧ t.attention.getLsbD 7 = true ∧ t.memoryOut = [] := by
  decide +kernel

/-- Table 5-7 in small: P5's FIFO, held entry, queue entry go, its tag is muted, P3's held entry stays; P1 is handed a trigger and takes it
on its BLOCKED head, the reset port is handed none. -/
theorem test_clientPortReset :
    let s := withLease 22 { openLease .guaranteed 0 32 32 16 with holdLimit := 4, heldCount := 2, outstanding := 2 } up
    let s := (s.setHoldQueue 22 [heldRead 5 1 4, heldRead 3 2 4]).setTag 0 (.issued (tagOf 22 5 3 8 0))
    let s := (s.setPort 5 { Port.powerOn with fifo := [readOf 9 0 1], head := .blocked, examined := some 22 }).setPort 1
      { Port.powerOn with fifo := [readOf 9 0 1], head := .blocked, examined := some 22 }
    let t := after (.clientPortReset 5) { s with poolFree := 94, gQueue := [entryOf 22 5 4 8] }
    t.port 5 = Port.powerOn ∧ t.holdQueue 22 = [heldRead 3 2 4] ∧ (t.lease 22).heldCount = 1 ∧ (t.lease 22).outstanding = 1 ∧
      t.gQueue = [] ∧ t.poolFree = 95 ∧ t.tag 0 = .issued { tagOf 22 5 3 8 0 with muted := true } ∧
      (t.port 1).head = .blocked ∧ (t.port 1).triggers = 1 ∧ ((takeTriggers t).port 1).head = .examining ∧ t.sent = [] := by
  decide +kernel

/-- A mask of bits 1 and 7 resets P1 and P7 alone; a mask of 0 none. -/
theorem test_portReset :
    let u : Port := { Port.powerOn with fifo := [readOf 9 0 1], head := .examining }
    let s := { State.reset with ports := Vector.replicate 8 u }
    (∀ p : PortId, (after (.portReset 0x82) s).port p = if p = 1 ∨ p = 7 then Port.powerOn else u) ∧
      after (.portReset 0) s = s := by decide +kernel

/-! ### The management window -/

/-- Table 9-3 in its four states; a pending command is one slot between fetch and submit. -/
theorem test_engineControls :
    let stopped := { State.reset with engine := { Engine.powerOn with submit := 1 } }
    let halted := State.reset.setEngineState .halted
    stopped.engine.fetch < stopped.engine.ringSize ∧
    (after .start stopped).engine.state = .busy .fetch .presented false ∧ (after .start State.reset).engine.state = .idle ∧
    (after .stop (after .start State.reset)).engine.state = .stopped ∧
    (after .stop ringState).engine.state = .busy .fetch .issued true ∧ after .start ringState = ringState ∧
    (after .clearHalt halted).engine.state = .stopped ∧ after .start halted = halted ∧ after .clearHalt ringState = ringState := by
  decide +kernel

/-- Table 9-4: with all indices at 5, SUBMIT_INDEX 8 takes an IDLE engine to BUSY; 16 of 16 slots and, in BUSY, the complete index are
ignored; 15 is taken in STOPPED and HALTED. -/
theorem test_submitIndexWrite :
    let idle := { State.reset with engine := { Engine.powerOn with state := .idle, submit := 5, fetch := 5, complete := 5 } }
    let t := after (.submitIndexWrite 8) idle
    t.engine = { idle.engine with submit := 8, state := .busy .fetch .presented false } ∧ t.engine.pendingCount = 3 ∧
    after (.submitIndexWrite 16) idle = idle ∧ (after (.submitIndexWrite 5) idle) = idle ∧ after (.submitIndexWrite 5) t = t ∧
    (after (.submitIndexWrite 0) t).engine.pendingCount = 11 ∧
    (after (.submitIndexWrite 15) State.reset).engine.submit = 15 ∧
    (after (.submitIndexWrite 15) (State.reset.setEngineState .halted)).engine.submit = 15 := by decide +kernel

/-- The five slot counts and their neighbours; writes outside STOPPED are ignored. -/
theorem test_ringConfiguration :
    let s := { State.reset with engine := { Engine.powerOn with ringBase := 0x55_0000_1000, submit := 3, fetch := 3, complete := 3 } }
    (after (.ringBaseWrite 0 0xABCDEFFF) s).engine = { s.engine with ringBase := 0x55_ABCD_E000, submit := 0, fetch := 0, complete := 0 } ∧
    (after (.ringBaseWrite 1 0xFFFFFFAA) s).engine.ringBase = 0xAA_0000_1000 ∧
    (after (.ringSizeWrite 256) s).engine.ringSize = 256 ∧ (after (.ringSizeWrite 16) s).engine.submit = 0 ∧
    after (.ringSizeWrite 8) s = s ∧ after (.ringSizeWrite 48) s = s ∧ after (.ringSizeWrite 512) s = s ∧
    after (.ringSizeWrite 32) ringState = ringState ∧ after (.ringBaseWrite 0 0x2000) ringState = ringState := by decide +kernel

/-- Sources are cleared bit by bit; the line is high while a set source is enabled. -/
theorem test_interruptRegisters :
    let s := { State.reset with intStatus := 0b110101#6 }
    (after (.intStatusWrite 0xFFFFFFD1) s).intStatus = 0b100100#6 ∧ (after (.intEnableWrite 0xFFFFFFC4) s).intEnable = 0b000100#6 ∧
    interruptLine (after (.intEnableWrite 0x04) s) = true ∧ interruptLine (after (.intEnableWrite 0x0A) s) = false ∧
    windowRead s 0x028 = 0x35 ∧ windowRead (after .softReset { s with intEnable := 63 }) 0x02C = 63 := by decide +kernel

/-- TIMEBASE_MHZ at 49, 50, 400 and 401; the divisor of the microsecond in progress stands. -/
theorem test_timebaseMhzWrite :
    after (.timebaseMhzWrite 49) State.reset = State.reset ∧ after (.timebaseMhzWrite 401) State.reset = State.reset ∧
    (after (.timebaseMhzWrite 50) State.reset).timebase = { mhz := 50, divisor := 200, cycles := 0 } ∧
    (after .microsecondEvent (after (.timebaseMhzWrite 400) State.reset)).timebase = { mhz := 400, divisor := 400, cycles := 0 } := by
  decide +kernel

/-- The limits at 65,535 and 65,536, the completion modes 1 and 2, ENGINE_CONTROL codes 0 and 7, a read-only and an unnamed offset. -/
theorem test_registerWrite :
    ((after (.registerWrite 0x05C 65535) State.reset).port 7).stallLimit = 65535 ∧
    after (.registerWrite 0x040 65536) State.reset = State.reset ∧
    (after (.registerWrite 0x038 0) State.reset).responseTimeout = 0 ∧ after (.registerWrite 0x038 65536) State.reset = State.reset ∧
    (after (.registerWrite 0x030 1) State.reset).engine.completionMode = .caughtUp ∧
    after (.registerWrite 0x030 2) State.reset = State.reset ∧ after (.registerWrite 0x000 7) State.reset = State.reset ∧
    after (.registerWrite 0x000 8) State.reset = State.reset ∧ after (.registerWrite 0x060 9) State.reset = State.reset ∧
    registerAt 0x07C = none ∧ after (.registerWrite 0x07C 9) State.reset = State.reset ∧ windowRead ringState 0x07C = 0 := by
  decide +kernel

/-- ENGINE_STATE, FAULT, COMMITTED, ATTENTION, POOL_FREE, TAGS and LINK as Table 11-2 lays them out. -/
theorem test_windowReads :
    windowRead ringState 0x004 = 0x102 ∧ windowRead ringState 0x01C = 3 ∧ windowRead ringState 0x064 = 321536 ∧
    windowRead ringState 0x068 = 0x240 ∧ windowRead (ringState.setLease 40 (ringState.lease 40)) 0x06C = 0 ∧
    windowRead { ringState with attention := attentionBit 33 } 0x06C = 2 ∧ windowRead ringState 0x070 = 95 ∧
    windowRead (ringState.setTag 9 .orphaned) 0x074 = 0x102 ∧ windowRead ringState 0x078 = 1 ∧
    windowRead (after .memoryPortReset ringState) 0x008 = 0x3100 ∧
    windowRead { ringState with engine := { ringState.engine with ringBase := 0x12_3456_7000 } } 0x014 = 0x12 := by decide +kernel

/-! ### Time -/

/-- On an empty queue 200 core clock cycles make a microsecond; the 16th microsecond of lease 0 raises its period end. -/
theorem test_microsecondEvent :
    let s := { State.reset with timebase := { mhz := 50, divisor := 200, cycles := 199 } }
    let t := s.setTimer 0 { count := 15, running := true, raised := 0 }
    (stepped { s with timebase := { s.timebase with cycles := 198 } }).timebase.cycles = 199 ∧
    (stepped s).timebase = { mhz := 50, divisor := 50, cycles := 0 } ∧ ((stepped s).timer 0).count = 1 ∧
    (after .microsecondEvent t).timer 0 = { count := 0, running := true, raised := 1 } ∧
    (after .microsecondEvent t).timer 1 = State.reset.timer 1 := by
  decide +kernel

/-- The expiry is taken at count 15 of k = 0 and not at 14, and on no stopped timer. -/
theorem test_periodTimerExpiry :
    let s := State.reset.setTimer 0 { count := 15, running := true, raised := 1 }
    let early := State.reset.setTimer 0 { count := 14, running := true, raised := 0 }
    (after (.periodTimerExpiry 0) s).timer 0 = { count := 0, running := true, raised := 2 } ∧
    after (.periodTimerExpiry 0) early = early ∧ after (.periodTimerExpiry 5) State.reset = State.reset := by decide +kernel

/-- Table 2-3: the 1st period end (carry 10), the 2nd (carry 2, the held request released) and the 3rd, which expires. -/
theorem test_periodEnd_table_2_3 :
    let open12 := { openLease .capped 2 40 40 24 with carryLimit := 10, term := 3, periodsRemaining := 3, holdLimit := 4 }
    let raised (r : Lease) := (withLease 12 r up).setTimer 12 { count := 0, running := true, raised := 1 }
    let first := after (.periodEnd 12) (raised open12)
    let second := after (.periodEnd 12)
      ((raised { open12 with periodsRemaining := 2, credit := 50, spent := 48, heldCount := 1 }).setHoldQueue 12 [heldRead 0 1 8])
    let third := after (.periodEnd 12) (raised { open12 with periodsRemaining := 1, credit := 42, spent := 24, outstanding := 1 })
    first.lease 12 = { open12 with periodsRemaining := 2, credit := 50, spent := 0 } ∧ (first.timer 12).raised = 0 ∧
    ((second.lease 12).periodsRemaining = 1 ∧ (second.lease 12).credit = 42 ∧ (second.lease 12).spent = 0 ∧
      second.release 12 = .running) ∧
    (third.lease 12).state = .draining ∧ (third.lease 12).drainCause = some .expired ∧ (third.lease 12).periodsRemaining = 0 ∧
      (third.lease 12).credit = 42 ∧ (third.lease 12).spent = 24 ∧ (third.timer 12).running = false := by decide +kernel

/-- Tables 3-4 and 3-5: the 4th period end of the review (630 above 600: CURB, CURBED), at a sum of 600 a new review, the curb's 5th
and 6th period ends. -/
theorem test_periodEnd_tables_3_4_3_5 :
    let review := { openLease .shared 4 64 180 180 with
      watchThreshold := 600, reviewSpan := 4, curbLength := 2, reviewAccumulator := 450, reviewCounter := 1,
      notify := Reason.curbed.mask }
    let raised (r : Lease) := (withLease 30 r up).setTimer 30 { count := 0, running := true, raised := 1 }
    let fourth := after (.periodEnd 30) (raised review)
    let curb := { review with
      regime := .curb, credit := 64, spent := 0, reviewAccumulator := 630, reviewCounter := 0, curbRemaining := 2,
      reasons := Reason.curbed.mask }
    let fifth := after (.periodEnd 30) (raised { curb with spent := 64 })
    let sixth := after (.periodEnd 30) (raised { curb with spent := 40, curbRemaining := 1 })
    fourth.lease 30 = curb ∧ fourth.attention.getLsbD 30 = true ∧ fourth.intStatus = Source.attention.mask ∧
    ((after (.periodEnd 30) (raised { review with credit := 150, spent := 150 })).lease 30).regime = .watch ∧
    fifth.lease 30 = { curb with curbRemaining := 1 } ∧
    sixth.lease 30 = { curb with regime := .watch, curbRemaining := 0, reviewAccumulator := 0, reviewCounter := 4 } ∧
    after (.periodEnd 7) ringState = ringState ∧ after (.periodEnd 5) ringState = ringState := by decide +kernel

/-- Table 5-6: the microsecond that brings the count to the limit 200 refuses the head; at 198 it counts to 199. -/
theorem test_stallExpiry :
    let u : Port := { Port.powerOn with
      fifo := [readOf 40 0 16, readOf 41 0 8], head := .blocked, stallTimer := 199, stallLimit := 200, examined := some 14 }
    let s := (withLease 14 (openLease .capped 0 32 32 24) up).setPort 2 u
    let t := after (.stallExpiry 2) s
    t.port 2 = { u with fifo := [readOf 41 0 8], head := .examining, stallTimer := 0, examined := none } ∧
    (t.lease 14).refusedCount = 1 ∧ t.intStatus = Source.portStall.mask ∧
    t.sent = [{ port := 2, clientId := 40, status := .refusedStalled, data := [] }] ∧
    (after .microsecondEvent s).port 2 = t.port 2 ∧
    ((after .microsecondEvent (s.setPort 2 { u with stallTimer := 198 })).port 2).stallTimer = 199 ∧
    (s.port 2).stallLimit ≤ min ((s.port 2).stallTimer + 1) 65535 ∧
    (∀ v ∈ [{ u with stallTimer := 198 }, { u with stallLimit := 0 }, { u with head := .examining }],
      after (.stallExpiry 2) (s.setPort 2 v) = s.setPort 2 v) ∧
    (after .microsecondEvent (s.setPort 2 { u with stallLimit := 0, stallTimer := 65535 })).port 2 =
      { u with stallLimit := 0, stallTimer := 65535 } := by decide +kernel

/-- R77, third bullet: after the drain start of the examined lease and before the port has taken its trigger, the expiry refuses the head
REFUSED_STALLED and the refused count of the DRAINING lease rises, and the trigger then finds the port IDLE; with the trigger taken
first no expiry falls due, and the head is refused REFUSED_UNBOUND. -/
theorem test_stallExpiry_and_drainStart :
    let u : Port := { Port.powerOn with
      fifo := [readOf 40 0 16], head := .blocked, stallTimer := 199, stallLimit := 200, examined := some 14 }
    let s := ((withLease 14 { openLease .capped 0 32 32 24 with outstanding := 1, boundSlots := 1 } ringState).setPort 2 u).setSlot 2 0
      (some 14)
    let d := after (.retireLease (body [(1, 1, 14)])) s
    let stalled := after (.stallExpiry 2) d
    let taken := after .microsecondEvent d
    let late := after .microsecondEvent { d with delayed := [[2]] }
    (d.port 2 = { u with triggers := 1 } ∧ (d.lease 14).state = .draining) ∧
    ((stalled.lease 14).refusedCount = 1 ∧ (stalled.lease 14).state = .draining ∧
      stalled.sent = [{ port := 2, clientId := 40, status := .refusedStalled, data := [] }] ∧
      (takeTriggers stalled).port 2 = { Port.powerOn with stallLimit := 200 }) ∧
    (taken.port 2 = { u with head := .examining } ∧ taken.sent = []) ∧
    late.sent = stalled.sent ∧ nextServed (takeTriggers d) = some 2 ∧
    (after .portHeadExamination d).sent = [{ port := 2, clientId := 40, status := .refusedUnbound, data := [] }] := by
  decide +kernel

/-- Triggers are taken but for those delayed: of two on the way to a BLOCKED head one, none or both may be; an EXAMINING head that takes
one does not keep it (R72). -/
theorem test_takeTriggers :
    let u : Port := { Port.powerOn with fifo := [readOf 1 0 1], head := .blocked, stallTimer := 7, examined := some 3, triggers := 2 }
    let s := { (State.reset.setPort 1 u).setPort 2 { u with head := .examining } with delayed := [[1, 0, 2, 1], [1], []] }
    let a := takeTriggers s
    let b := takeTriggers a
    (a.port 1 = u ∧ a.port 2 = { u with head := .examining, triggers := 1 } ∧ a.port 0 = Port.powerOn ∧ a.delayed = [[1], []]) ∧
    (b.port 1 = { u with head := .examining, triggers := 1 } ∧ b.port 2 = { u with head := .examining, triggers := 0 }) ∧
    (takeTriggers b).port 1 = { u with head := .examining, triggers := 0 } ∧ takeTriggers State.reset = State.reset := by decide +kernel

/-- Table 8-7: the 500th microsecond of tag 4 is TIMEOUT to P3, a fault of lease 25, an ORPHANED tag; FAULT enters the attention set;
on the engine's tag it halts the engine. -/
theorem test_responseTimeout :
    let s := (withLease 25 { openLease .capped 0 32 32 8 with notify := Reason.fault.mask, outstanding := 1 } up).setTag 4
      (.issued (tagOf 25 3 60 8 499))
    let t := after (.responseTimeout 4) s
    t.tag 4 = .orphaned ∧ (t.lease 25).outstanding = 0 ∧ (t.lease 25).faultCount = 1 ∧ (t.lease 25).reasons = Reason.fault.mask ∧
    t.attention.getLsbD 25 = true ∧ t.sent = [{ port := 3, clientId := 60, status := .timeout, data := [] }] ∧
    (after .microsecondEvent s).tag 4 = .orphaned ∧
    (after .microsecondEvent (s.setTag 4 (.issued (tagOf 25 3 60 8 498)))).tag 4 = .issued (tagOf 25 3 60 8 499) ∧
    (after (.responseTimeout 4) { s with responseTimeout := 0 }) = { s with responseTimeout := 0 } ∧
    (after (.responseTimeout 0) (ringState.setTag 0 (.issued { engineTag with timer := 499 }))).engine.fault =
      { slot := 0, step := .fetch, cause := .timeout } ∧
    (after (.responseTimeout 0) { ringState.setTag 0 (.issued { engineTag with timer := 499 }) with intStatus := 0b010000#6 }).intStatus =
      0b010100#6 ∧
    after (.responseTimeout 4) (s.setTag 4 (.issued (tagOf 25 3 60 8 498))) = s.setTag 4 (.issued (tagOf 25 3 60 8 498)) ∧
    after (.responseTimeout 9) s = s ∧ s.responseTimeout ≤ min (499 + 1) 65535 := by decide +kernel

/-! ### Requests -/

/-- A request at a FIFO of 0, 7 and 8 requests; a WRITE whose beats have not arrived is not taken. -/
theorem test_requestArrival :
    let r := readOf 1 0 1
    let full (n : Nat) := State.reset.setPort 6
      { Port.powerOn with fifo := List.replicate n (readOf 0 0 1), head := .blocked, examined := some 4 }
    r.whole = true ∧
    (after (.requestArrival 6 r) State.reset).port 6 = { Port.powerOn with fifo := [r], head := .examining } ∧
    ((after (.requestArrival 6 r) (full 7)).port 6).fifo = List.replicate 7 (readOf 0 0 1) ++ [r] ∧
    ((after (.requestArrival 6 r) (full 8)).port 6).link = [r] ∧ ((after (.requestArrival 6 r) (full 8)).port 6).fifo.length = 8 ∧
    after (.requestArrival 6 { r with direction := .write }) State.reset = State.reset := by decide +kernel

/-- P0 with one EXAMINING head and slot (P0, 0) bound to lease 3: the only position waiting. -/
def headState (lease : Lease) (r : PortRequest) : State :=
  ((withLease 3 { lease with boundSlots := 1 } up).setSlot 0 0 (some 3)).setPort 0
    { Port.powerOn with fifo := [r], head := .examining }

/-- How P0's head ends in the state of `headState`. -/
def headEnds (lease : Lease) (r : PortRequest) : PortOutcome := portOutcome (headState lease r) 0 r

/-- The form stage at its bounds: lengths 0, 1, 16, 17, a misaligned address, a request that ends at and beyond its block. -/
theorem test_portHead_form :
    let l := openLease .capped 0 200 200 0
    (headEnds l (readOf 1 0 0) = .refuse .refusedForm ∧ headEnds l (readOf 1 0 1) = .charge 3 ∧
    headEnds l (readOf 1 0 16) = .charge 3 ∧ headEnds l (readOf 1 0 17) = .refuse .refusedForm ∧
    headEnds l (readOf 1 16 1) = .refuse .refusedForm ∧ headEnds l (readOf 1 (4096 - 512) 16) = .charge 3 ∧
    headEnds l (readOf 1 (4096 - 480) 16) = .refuse .refusedForm) ∧
    nextServed (headState l (readOf 1 0 0)) = some 0 ∧ ringItem 0 = .port 0 ∧
    (after .portHeadExamination (headState l (readOf 1 0 0))).sent =
      [{ port := 0, clientId := 1, status := .refusedForm, data := [] }] ∧
    portOutcome (headState l (readOf 1 0 1)) 0 { readOf 1 0 1 with tag := 9 } = .refuse .refusedUnbound := by decide +kernel

/-- Table 12-2 on lease 3 (budget 200, hold limit 2): charged at 184 + 16, held at 192 + 16, blocked at held count 2; a fence's bounds
and access, the oversize bound, overdraw, and a full queue. -/
theorem test_portHead_stages :
    let l := { openLease .guaranteed 2 200 200 192 with holdLimit := 2 }
    let r := readOf 1 0 16
    let fenced (a : Access) := { l with spent := 0, fence := some { base := 1, limit := 2, access := a } }
    (headEnds { l with spent := 184 } r = .charge 3 ∧ headEnds l r = .hold 3 ∧ headEnds { l with heldCount := 1, spent := 0 } r = .hold 3 ∧
      headEnds { l with heldCount := 2 } r = .block 3 ∧ headEnds { l with state := .suspended, spent := 0 } r = .hold 3 ∧
      portOutcome { headState l r with poolFree := 0 } 0 r = .block 3) ∧
    (headEnds (fenced .read) r = .refuseCounted 3 .refusedFence ∧ headEnds (fenced .read) (readOf 1 4096 16) = .charge 3 ∧
      headEnds (fenced .readWrite) (readOf 1 0x2E00 16) = .charge 3 ∧ headEnds (fenced .read) (readOf 1 0x3000 1) = .refuseCounted 3 .refusedFence ∧
      headEnds (fenced .write) (readOf 1 4096 16) = .refuseCounted 3 .refusedFence) ∧
    (headEnds { l with budget := 15, credit := 15, spent := 0 } r = .refuseCounted 3 .refusedOversize ∧
      headEnds { l with budget := 12, carryLimit := 4, credit := 16, spent := 0 } r = .charge 3 ∧
      headEnds { l with overdrawPermitted := true } r = .overdraw 3 ∧
      portOutcome { headState { l with overdrawPermitted := true } r with sQueue := List.replicate 16 (entryOf 9 1 1 1) } 0 r = .block 3 ∧
      portOutcome { headState { l with spent := 0 } r with gQueue := List.replicate 16 (entryOf 9 1 1 1) } 0 r = .block 3) := by
  decide +kernel

/-- The states those outcomes leave: a charge, a hold join, a block, and a WATCH lease whose credit rises with spent. -/
theorem test_portHead_effects :
    let l := { openLease .guaranteed 2 200 200 0 with holdLimit := 2, boundSlots := 1 }
    let r := readOf 1 0 16
    let charged := after .portHeadExamination (headState l r)
    let held := after .portHeadExamination (headState { l with spent := 192 } r)
    let blocked := after .portHeadExamination (headState { l with spent := 192, holdLimit := 0 } r)
    let watch := after .portHeadExamination (headState
      { openLease .shared 4 10 10 9 with watchThreshold := 600, reviewSpan := 4, curbLength := 2, reviewCounter := 4 } r)
    (charged.lease 3 = { l with spent := 16, admittedBeats := 16, outstanding := 1 } ∧ charged.gQueue = [entryOf 3 0 1 16] ∧
      charged.port 0 = Port.powerOn ∧ charged.lastServed = 0) ∧
    (held.lease 3 = { l with spent := 192, heldCount := 1, heldTotal := 1 } ∧ held.holdQueue 3 = [heldRead 0 1 16] ∧ held.poolFree = 95) ∧
    ((blocked.port 0).head = .blocked ∧ (blocked.port 0).examined = some 3) ∧
    (watch.lease 3).spent = 25 ∧ (watch.lease 3).credit = 25 ∧ watch.sQueue = [entryOf 3 0 1 16] := by decide +kernel

/-- Lease 40's release (Table 7-3) with the given record and held entries: position 48 is the only one waiting. -/
def releaseState (lease : Lease) (q : List HeldEntry) : State :=
  { ((withLease 40 { lease with heldCount := q.length } up).setHoldQueue 40 q).setRelease 40 .running with
    poolFree := 96 - q.length }

/-- Table 7-3: A is refused oversize, B charged, C stops the release; a full queue pauses it, overdraw places, the last entry leaves it
IDLE, a SUSPENDED lease stops it. -/
theorem test_releasedEntryExamination :
    let l := { openLease .capped 0 12 12 0 with holdLimit := 2 }
    let entry (n : Nat) := heldRead 2 (BitVec.ofNat 8 n) n
    let a := after .releasedEntryExamination (releaseState l [entry 16, entry 8])
    let b := after .releasedEntryExamination (releaseState l [entry 8])
    let c := after .releasedEntryExamination (releaseState { l with spent := 8 } [entry 8])
    let full := { releaseState l [entry 8] with sQueue := List.replicate 16 (entryOf 9 1 1 1) }
    let overdrawn := { openLease .guaranteed 0 12 12 8 with overdrawPermitted := true }
    nextServed (releaseState l [entry 8]) = some 48 ∧ ringItem 48 = .release 40 ∧
    (a.holdQueue 40 = [entry 8] ∧ a.release 40 = .running ∧ a.poolFree = 95 ∧ (a.lease 40).refusedCount = 1 ∧ (a.lease 40).heldCount = 1 ∧
      a.sent = [{ port := 2, clientId := 16, status := .refusedOversize, data := [] }]) ∧
    (b.holdQueue 40 = [] ∧ b.release 40 = .idle ∧ (b.lease 40).spent = 8 ∧ (b.lease 40).outstanding = 1 ∧
      b.sQueue = [entryOf 40 2 8 8]) ∧
    (c.release 40 = .idle ∧ c.holdQueue 40 = [entry 8] ∧ (c.lease 40).spent = 8) ∧
    (after .releasedEntryExamination full).release 40 = .paused ∧
    ((after .releasedEntryExamination (releaseState overdrawn [entry 8])).lease 40).overdrawBeats = 8 ∧
    (after .releasedEntryExamination (releaseState { l with state := .suspended } [entry 8])).release 40 = .idle := by decide +kernel

/-- Table 6-5, steps 2 and 6: on a full G queue the engine's request is WAITING; with room it is charged to lease 0 and placed; with
lease 0's credit spent it is WAITING. -/
theorem test_engineRequestExamination :
    let s := up.setEngineState (.busy .fetch .presented false)
    let full := { s with gQueue := List.replicate 16 (entryOf 9 1 1 1) }
    let t := after .engineRequestExamination s
    nextServed s = some 8 ∧ ringItem 8 = .engine ∧
    (after .engineRequestExamination full).engine.state = .busy .fetch .waiting false ∧
    (after .engineRequestExamination (s.setLease 0 { Lease.engineRecord with spent := 16 })).engine.state = .busy .fetch .waiting false ∧
    (after .engineRequestExamination (s.setLease 0 { Lease.engineRecord with spent := 15 })).engine.state = .busy .fetch .placed false ∧
    t.lease 0 = { Lease.engineRecord with spent := 1, admittedBeats := 1, outstanding := 1 } ∧
    t.gQueue = [{ lease := 0, origin := .engine, direction := .read, address := 0, length := 1, data := [] }] := by decide +kernel

/-- After P3 (position 3), P6 is served before the engine, the engine before P1 (6.7). -/
theorem test_roundRobin :
    let u : Port := { Port.powerOn with fifo := [readOf 0 0 1], head := .examining }
    let s := ((up.setEngineState (.busy .fetch .presented false)).setPort 1 u).setPort 6 u
    nextServed { s with lastServed := 3 } = some 6 ∧ nextServed { s with lastServed := 6 } = some 8 ∧
    nextServed { s with lastServed := 8 } = some 1 ∧ nextServed State.reset = none ∧
    (ringItem 0 = .port 0 ∧ ringItem 7 = .port 7 ∧ ringItem 8 = .engine ∧ ringItem 9 = .release 1 ∧ ringItem 71 = .release 63) ∧
    (waiting s 6 = true ∧ waiting s 7 = false ∧ waiting s 8 = true ∧
      waiting ((s.setHoldQueue 63 [heldRead 0 1 1]).setRelease 63 .running) 71 = true ∧
      waiting ((s.setHoldQueue 63 [heldRead 0 1 1]).setRelease 63 .paused) 71 = false) := by decide +kernel

/-! ### The memory port -/

/-- Table 8-6: at G-run 7 and 8 with both queues held, and with G empty; the lowest FREE tag; the trigger is handed, and taken on a BLOCKED head. -/
theorem test_issue :
    let s := { up with gQueue := [entryOf 1 0 1 4], sQueue := [entryOf 2 1 2 4], gRun := 7, tags := up.tags.set 0 .orphaned }
    let s := s.setPort 4 { Port.powerOn with fifo := [readOf 0 0 1], head := .blocked, examined := some 9 }
    let g := after .issue s
    let n := after .issue { s with gRun := 8 }
    (g.gQueue = [] ∧ g.gRun = 8 ∧ g.tag 1 = .issued (tagOf 1 0 1 4 0) ∧ g.memoryOut = [.request 1 .read 0 4 []] ∧
      (g.port 4).head = .blocked ∧ ((takeTriggers g).port 4).head = .examining) ∧
    (n.sQueue = [] ∧ n.gQueue = [entryOf 1 0 1 4] ∧ n.gRun = 0) ∧
    ((after .issue { s with sQueue := [], gRun := 8 }).gRun = 8 ∧ (after .issue { s with gQueue := [] }).gRun = 0) ∧
    after .issue { s with link := .down } = { s with link := .down } ∧ after .issue up = up := by decide +kernel

/-- The engine's placed entry becomes ISSUED with its tag (R146). -/
theorem test_issue_engine :
    let s := { up.setEngineState (.busy .fetch .placed false) with
      gQueue := [{ lease := 0, origin := .engine, direction := .read, address := 0, length := 1, data := [] }] }
    (after .issue s).engine.state = .busy .fetch .issued false ∧ (after .issue s).tag 0 = .issued engineTag := by decide +kernel

/-- Client tags: DONE with the data, MEMORY_ERROR with a fault, a muted tag unanswered; the last answer of a DRAINING lease frees it;
late and stray responses. -/
theorem test_memoryResponse :
    let s := (withLease 5 { openLease .capped 0 32 32 2 with outstanding := 1 } up).setTag 4 (.issued (tagOf 5 3 60 2 0))
    let done := after (.memoryResponse 4 .ok [1, 2]) s
    let bad := after (.memoryResponse 4 .error []) s
    let drained := after (.memoryResponse 4 .ok [1, 2]) (s.setLease 5 { s.lease 5 with state := .draining, drainCause := some .retired })
    (done.sent = [{ port := 3, clientId := 60, status := .done, data := [1, 2] }] ∧ done.tag 4 = .free ∧ (done.lease 5).outstanding = 0) ∧
    (bad.sent = [{ port := 3, clientId := 60, status := .memoryError, data := [] }] ∧ (bad.lease 5).faultCount = 1) ∧
    (after (.memoryResponse 4 .ok [1, 2]) (s.setTag 4 (.issued { tagOf 5 3 60 2 0 with muted := true }))).sent = [] ∧
    drained.lease 5 = Lease.freeRecord 0 0 ∧ drained.timer 5 = { count := 0, running := false, raised := 0 } ∧
    (let freed := after (.memoryResponse 4 .ok [1, 2])
       (s.setLease 5 { s.lease 5 with state := .draining, drainCause := some .retired, notify := Reason.freed.mask })
     freed.attention = attentionBit 5 ∧ freed.intStatus = Source.attention.mask) ∧
    after (.memoryResponse 4 .ok []) (s.setTag 4 .orphaned) = s.setTag 4 .free ∧
    (after (.memoryResponse 9 .ok []) s).intStatus = Source.stray.mask ∧
    (after (.memoryResponse 9 .ok []) { s with link := .down }).intStatus = Source.stray.mask := by decide +kernel

/-- Table 9-4: completion writes answered OK under CAUGHT_UP (a command pending; stop-pending; caught up) and one answered ERROR; a
snapshot write answered OK. -/
theorem test_memoryResponse_engine :
    let c : InHand := { code := 0, sequence := 7, status := .ok, result := 0 }
    let s (submit : Nat) (step : EngineStep) (sp : Bool) : State := { (ringState.setTag 0 (.issued { engineTag with direction := .write })) with
      engine := { Engine.powerOn with completionMode := .caughtUp, submit := submit, fetch := 7, complete := 6, state := .busy step .issued sp } }
    let ok (s : State) := after (.memoryResponse 0 .ok []) s
    let failed := after (.memoryResponse 0 .error []) (s 8 (.completion c) true)
    ((ok (s 8 (.completion c) false)).engine.state = .busy .fetch .presented false ∧ (ok (s 8 (.completion c) false)).engine.complete = 7 ∧
      (ok (s 8 (.completion c) true)).engine.state = .stopped ∧ (ok (s 8 (.completion c) true)).intStatus = ringState.intStatus ∧
      (ok (s 7 (.completion c) false)).engine.state = .idle ∧ (ok (s 7 (.completion c) false)).intStatus = 0b000011#6 ∧
      (ok (s 8 (.snapshot c 0 []) true)).engine.state = .busy (.completion c) .presented true) ∧
    failed.engine.state = .halted ∧ failed.engine.fetch = 6 ∧
    failed.engine.fault = { slot := 6, step := .completion, cause := .memoryError } ∧ (failed.lease 0).faultCount = 1 ∧
    failed.intStatus = 0b000101#6 ∧ ((s 8 (.completion c) true).lease 0).notify = 0 := by decide +kernel

/-- The level's change is the signal; a level held on is none; its fall leaves the link, and after a reset a new rise is needed. -/
theorem test_readySignal :
    let t := after .readySignal State.reset
    t.link = .up ∧ t.readyLevel = true ∧ after .readySignal t = t ∧ (after .readyLevelDeasserted t).link = .up ∧
    (after .readySignal (after .memoryPortReset t)).link = .down ∧
    (after .readySignal (after .readyLevelDeasserted (after .memoryPortReset t))).link = .up := by decide +kernel

/-! ### The command ring -/

/-- A NOP is OK; byte 31, a reserved bit and a lease id field that is not used are told apart; code 12 is BAD_COMMAND. -/
theorem test_nop_and_unknown :
    outcome (after (.nop (body [(2, 2, 7)])) ringState) = some (.ok, 0) ∧
    outcome (after (.nop (body [(31, 1, 1)])) ringState) = some (.badParam, 0) ∧
    outcome (after (.nop (body [(1, 1, 1)])) ringState) = some (.badParam, 0) ∧
    outcome (after (.unknownCommandCode 12 (body [(1, 1, 200)])) ringState) = some (.badCommand, 0) ∧
    outcome (after (.unknownCommandCode 255 (body [(31, 1, 1)])) ringState) = some (.badParam, 0) ∧
    (after (.nop 0) ringState).engine.fetch = 1 ∧ (after (.nop 0) ringState).tag 0 = .free ∧
    ((after (.nop 0) ringState).lease 0).outstanding = 0 ∧ after (.nop 0) State.reset = State.reset ∧
    after (.memoryResponse 0 .ok [commandRecord 0 (body [(2, 2, 7)])]) ringState = after (.nop (body [(2, 2, 7)])) ringState ∧
    after (.memoryResponse 0 .ok [commandRecord 12 (body [(2, 2, 7)])]) ringState =
      after (.unknownCommandCode 12 (body [(2, 2, 7)])) ringState := by
  decide +kernel

/-- The record of Table 12-1: k = 2, budget 200, hold limit 2, notify EXPIRED, FREED and FAULT. -/
def open12 (lease budget : Nat) : RecordBody :=
  body [(1, 1, lease), (2, 2, 1), (5, 1, 2), (6, 1, 2), (7, 1, 0xD0), (8, 2, budget)]

/-- OPEN_LEASE of lease 10 as in Table 12-1 (rate 204,800), of ANY, of 0, of a DRAINING, an OPEN and a FREE lease with reasons. -/
theorem test_openLease :
    let t := after (.openLease (open12 10 200)) ringState
    recordRefusal (commandRecord 1 (open12 10 200)) = none ∧
    outcome t = some (.ok, 10) ∧ t.committed = 321536 + 204800 ∧ t.timer 10 = { count := 0, running := true, raised := 0 } ∧
    t.lease 10 = { openLease .guaranteed 2 200 200 0 with holdLimit := 2, notify := 0b1101#4 } ∧
    outcome (after (.openLease (open12 255 200)) ringState) = some (.ok, 1) ∧
    outcome (after (.openLease (open12 0 200)) ringState) = some (.reservedLease, 0) ∧
    outcome (after (.openLease (open12 7 200)) ringState) = some (.draining, 0) ∧
    outcome (after (.openLease (open12 5 200)) ringState) = some (.inUse, 0) ∧
    outcome (after (.openLease (open12 9 200)) ringState) = some (.inUse, 0) ∧
    outcome (after (.openLease (open12 64 200)) ringState) = some (.badParam, 0) := by decide +kernel

/-- NO_LEASE when no id from 1 to 63 is FREE without reasons; the capacity figure at and below the sum; the ranges of Table 10-3 at
their bounds. -/
theorem test_openLease_refusals :
    let none := { ringState with leases := (Vector.replicate 64 (Lease.freeRecord 0 1)).set 0 (ringState.lease 0) }
    let p := openParams (commandRecord 1 (open12 10 200))
    outcome (after (.openLease (open12 255 200)) none) = some (.noLease, 0) ∧
    outcome (after (.openLease (open12 10 200)) { ringState with capacity := 526336 }) = some (.ok, 10) ∧
    outcome (after (.openLease (open12 10 200)) { ringState with capacity := 526335 }) = some (.overCapacity, 0) ∧
    outcome (after (.openLease (open12 10 0)) ringState) = some (.badParam, 0) ∧
    (checkOpen p = some (.guaranteed, Option.none) ∧ checkOpen { p with k := 12 } ≠ Option.none ∧ checkOpen { p with k := 13 } = Option.none ∧
      checkOpen { p with holdLimit := 33 } = Option.none ∧ checkOpen { p with carryLimit := 200 } ≠ Option.none ∧
      checkOpen { p with carryLimit := 201 } = Option.none ∧ checkOpen { p with classCode := 3 } = Option.none ∧
      checkOpen { p with fenceLimit := 1 } = Option.none ∧
      checkOpen { p with fencePresent := true, fenceAccess := 1, fenceLimit := 268435455 } =
        some (.guaranteed, some { base := 0, limit := 268435455, access := .read }) ∧
      checkOpen { p with fencePresent := true, fenceAccess := 1, fenceLimit := 268435456 } = Option.none ∧
      checkOpen { p with fencePresent := true, fenceAccess := 0, fenceLimit := 1 } = Option.none ∧
      checkOpen { p with classCode := 2, watchThreshold := 1, reviewSpan := 63, curbLength := 63 } = some (.shared, Option.none) ∧
      checkOpen { p with classCode := 2, watchThreshold := 1, reviewSpan := 64, curbLength := 63 } = Option.none) := by decide +kernel

/-- Table 4-2: lease 5 resized to 900 gives back 25,600; an increase over the capacity figure is refused with the sum; lease 6's curb of 2
shortened to 1 (Table 12-3); a FREE lease; lease 0 with a hold limit. -/
theorem test_resizeLease :
    let resize (fields : List (Nat × Nat × Nat)) := after (.resizeLease (body fields)) ringState
    outcome (resize [(1, 1, 5), (8, 2, 900)]) = some (.ok, 295936) ∧ ((resize [(1, 1, 5), (8, 2, 900)]).lease 5).credit = 1000 ∧
    ((resize [(1, 1, 5), (8, 2, 1100), (6, 1, 4)]).lease 5) = { ringState.lease 5 with budget := 1100, credit := 1100, holdLimit := 4 } ∧
    outcome (resize [(1, 1, 5), (8, 2, 65535)]) = some (.overCapacity, 321536) ∧
    (let t := resize [(1, 1, 6), (8, 2, 64), (14, 1, 4), (15, 1, 1), (16, 4, 600)]
     t.lease 6 = { ringState.lease 6 with curbLength := 1, curbRemaining := 1 } ∧ outcome t = some (.ok, 321536)) ∧
    outcome (resize [(1, 1, 10), (8, 2, 900)]) = some (.notOpen, 0) ∧ outcome (resize [(1, 1, 0), (8, 2, 16), (6, 1, 1)]) = some (.badParam, 0) ∧
    outcome (resize [(1, 1, 0), (8, 2, 17)]) = some (.ok, 325632) ∧ outcome (resize [(1, 1, 5)]) = some (.badParam, 0) := by decide +kernel

/-- A renewal of 2 periods on 3, saturation at 65,535, and the refusals in their order. -/
theorem test_renewLease :
    let renew (l n : Nat) := after (.renewLease (body [(1, 1, l), (12, 2, n)])) ringState
    recordRefusal (commandRecord 3 (body [(1, 1, 8), (12, 2, 2)])) = none ∧
    outcome (renew 8 2) = some (.ok, 5) ∧ ((renew 8 2).lease 8).periodsRemaining = 5 ∧ outcome (renew 8 65535) = some (.ok, 65535) ∧
    outcome (renew 10 2) = some (.notOpen, 0) ∧ outcome (renew 7 2) = some (.tooLate, 0) ∧ outcome (renew 5 2) = some (.badParam, 0) ∧
    outcome (renew 8 0) = some (.badParam, 0) ∧ outcome (renew 255 2) = some (.badParam, 0) := by decide +kernel

/-- Suspension and resumption in every state, and of lease 0. -/
theorem test_suspend_and_resume :
    let suspend (l : Nat) := after (.suspendLease (body [(1, 1, l)])) ringState
    let resume (l : Nat) := after (.resumeLease (body [(1, 1, l)])) ringState
    (outcome (suspend 5) = some (.ok, 0) ∧ ((suspend 5).lease 5).state = .suspended ∧ outcome (suspend 8) = some (.ok, 0) ∧
      outcome (suspend 0) = some (.reservedLease, 0) ∧ outcome (suspend 7) = some (.notOpen, 0) ∧ outcome (suspend 10) = some (.notOpen, 0)) ∧
    (outcome (resume 8) = some (.ok, 0) ∧ ((resume 8).lease 8).state = .opened ∧ (resume 8).release 8 = .running ∧
      outcome (resume 0) = some (.ok, 0) ∧ outcome (resume 7) = some (.notOpen, 0) ∧ outcome (resume 10) = some (.notOpen, 0)) := by
  decide +kernel

/-- A retirement at outstanding 0 frees the lease at once with its held request refused; one at outstanding 2 drains, unbinds and gives
its rate back (Table 10-6); lease 0 and a DRAINING lease. -/
theorem test_retireLease :
    let retire (l : Nat) (s : State) := after (.retireLease (body [(1, 1, l)])) s
    let busy := { ringState.setLease 5 { ringState.lease 5 with outstanding := 2 } with gQueue := [entryOf 5 0 1 4, entryOf 5 0 2 4] }
    (outcome (retire 8 ringState) = some (.ok, 0) ∧ (retire 8 ringState).lease 8 = Lease.freeRecord 0 0 ∧ (retire 8 ringState).poolFree = 96 ∧
      (retire 8 ringState).sent = [{ port := 1, clientId := 3, status := .refusedRetired, data := [] }]) ∧
    (outcome (retire 5 busy) = some (.ok, 2) ∧ ((retire 5 busy).lease 5).state = .draining ∧
      ((retire 5 busy).lease 5).drainCause = some .retired ∧ ((retire 5 busy).lease 5).boundSlots = 0 ∧ (retire 5 busy).slot 0 0 = none ∧
      (retire 5 busy).committed = 65536 ∧ ((retire 5 busy).timer 5).running = false) ∧
    outcome (retire 0 ringState) = some (.reservedLease, 0) ∧ outcome (retire 7 ringState) = some (.notOpen, 0) := by decide +kernel

/-- The hypotheses of `DrainStartChanges`, at outstanding 0 and above, with and without held requests. -/
theorem witness_drainStart :
    ((ringState.lease 8).state = .suspended ∧ (ringState.lease 8).heldCount = (ringState.holdQueue 8).length ∧
      (ringState.lease 8).outstanding = 0 ∧ ringState.holdQueue 8 ≠ []) ∧
    ((ringState.lease 5).state = .opened ∧ (ringState.lease 5).heldCount = (ringState.holdQueue 5).length ∧ ringState.slot 0 0 = some 5) ∧
    ((drainStart 8 .expired ringState).lease 8).reasons = 0 ∧
    (let u := drainStart 8 .expired { ringState.setLease 8 { ringState.lease 8 with notify := 1 } with intStatus := 0b100000#6 }
     (u.lease 8).reasons = Reason.expired.mask ∧ u.attention = ringState.attention ||| attentionBit 8 ∧ u.intStatus = 0b100001#6) := by
  decide +kernel

/-- An UNBOUND slot, a slot of another lease, the same lease again; ports 7 and 8, tags 15 and 16; leases 0, 7 and 10. -/
theorem test_bindStream :
    let bind (l p t : Nat) := after (.bindStream (body [(1, 1, l), (4, 1, p), (5, 1, t)])) ringState
    (outcome (bind 5 7 15) = some (.ok, 0) ∧ ((bind 5 7 15).lease 5).boundSlots = 2 ∧ (bind 5 7 15).slot 7 15 = some 5) ∧
    (((bind 5 0 1).lease 5).boundSlots = 2 ∧ ((bind 5 0 1).lease 6).boundSlots = 0 ∧ (bind 5 0 1).slot 0 1 = some 5) ∧
    (outcome (bind 5 0 0) = some (.ok, 0) ∧ ((bind 5 0 0).lease 5).boundSlots = 1) ∧
    outcome (bind 5 8 0) = some (.badParam, 0) ∧ outcome (bind 0 0 16) = some (.badParam, 0) ∧ outcome (bind 0 0 0) = some (.reservedLease, 0) ∧
    outcome (bind 7 0 0) = some (.notOpen, 0) ∧ outcome (bind 10 0 0) = some (.notOpen, 0) := by decide +kernel

/-- The result is the lease id the slot named, 255 when it was UNBOUND; a lease id field that is not zero is BAD_PARAM. -/
theorem test_unbindStream :
    let unbind (l p t : Nat) := after (.unbindStream (body [(1, 1, l), (4, 1, p), (5, 1, t)])) ringState
    outcome (unbind 0 0 1) = some (.ok, 6) ∧ (unbind 0 0 1).slot 0 1 = none ∧ ((unbind 0 0 1).lease 6).boundSlots = 0 ∧
    outcome (unbind 0 7 15) = some (.ok, 255) ∧ outcome (unbind 0 0 16) = some (.badParam, 0) ∧ outcome (unbind 5 0 0) = some (.badParam, 0) := by
  decide +kernel

/-- Snapshot addresses at the last place of a block, one beat beyond it, and misaligned; the snapshot's fields in Table 11-4's places. -/
theorem test_queryLease :
    let query (a : Nat) := after (.queryLease (body [(1, 1, 6), (2, 2, 9), (8, 5, a)])) ringState
    let beats := snapshotBeats 6 (ringState.lease 6) 77
    (query (4096 + 3968)).engine.state = .busy (.snapshot { code := 9, sequence := 9, status := .ok, result := 0 } 8064
      (snapshotBeats 6 (ringState.lease 6) 0)) .presented false ∧
    outcome (query (4096 + 4000)) = some (.badParam, 0) ∧ outcome (query 16) = some (.badParam, 0) ∧
    beats.length = 4 ∧ beats.getD 3 1 = 0 ∧
    (let b := beats.getD 0 0
     byteAt b 0 = 6 ∧ byteAt b 1 = 1 ∧ byteAt b 3 = 2 ∧ byteAt b 4 = 4 ∧ byteAt b 7 = 0x20 ∧ halfAt b 8 = 64 ∧ wordAt b 16 = 64 ∧
      wordAt b 24 = 77 ∧ byteAt b 29 = 1 ∧ byteAt b 30 = 0x20) ∧
    (let b := beats.getD 1 0
     byteAt b 0 = 1 ∧ byteAt b 2 = 2 ∧ byteAt b 3 = 4 ∧ byteAt b 4 = 2 ∧ wordAt b 8 = 600 ∧ wordAt b 12 = 630) ∧
    (let fenced := snapshotBeats 63 { openLease .guaranteed 0 1 1 0 with
       overdrawPermitted := true, notify := 0b1001#4, fence := some { base := 5, limit := 268435455, access := .readWrite } } 0
     byteAt (fenced.getD 0 0) 7 = 0x9F ∧ wordAt (fenced.getD 1 0) 16 = 5 ∧ wordAt (fenced.getD 1 0) 20 = 268435455) := by decide +kernel

/-- The last reason acknowledged takes the lease out of the attention set; a reason not raised leaves it. -/
theorem test_ackAttention :
    let ack (l m : Nat) := after (.ackAttention (body [(1, 1, l), (7, 1, m)])) ringState
    outcome (ack 6 0x20) = some (.ok, 0) ∧ ((ack 6 0x20).lease 6).reasons = 0 ∧ (ack 6 0x20).attention = attentionBit 9 ∧
    (ack 6 0x20).intStatus = Source.attention.mask ∧ outcome (ack 6 0xD0) = some (.ok, 0x20) ∧ (ack 6 0xD0).attention = ringState.attention ∧
    outcome (ack 6 0x21) = some (.badParam, 0) := by decide +kernel

/-- Table 4-2: a value equal to the committed sum is taken, one below it is refused with the sum as the result. -/
theorem test_setCapacity :
    let set (v : Nat) := after (.setCapacity (body [(16, 4, v)])) ringState
    recordRefusal (commandRecord 11 (body [(16, 4, 321536)])) = none ∧
    outcome (set 321536) = some (.ok, 321536) ∧ (set 321536).capacity = 321536 ∧ outcome (set 321535) = some (.overCapacity, 321536) ∧
    (set 321535).capacity = 1048576 ∧ outcome (set 4294967295) = some (.ok, 321536) := by decide +kernel

/-- The completion record of a RENEW_LEASE: code, sequence, status, result and the done marker. -/
theorem test_completionRecord :
    completionRecord { code := 3, sequence := 0x1234, status := .tooLate, result := 0x01020304 } =
      0x0100000000000000000000000000000000000000010203040000000812340003#256 := by decide +kernel

end Sys2Proof.Tests
end

section
/-!
PROOF. The values after power-on reset (R21, R23, R31, R188) and the laws at power-on reset.
-/

namespace Sys2Proof.Machine

/-! ### Tables after power-on reset -/

/-- Lease 0 holds the engine's record after power-on reset (R21). -/
theorem lease_reset_zero : State.reset.lease 0 = Lease.engineRecord := by
  simp [State.lease, State.reset, resetLeases]

/-- Every other lease is FREE with empty sets after power-on reset (R23). -/
theorem lease_reset_ne {l : LeaseId} (h : l ≠ 0) : State.reset.lease l = Lease.freeRecord 0 0 := by
  have h' : (0 : Nat) ≠ l.val := fun e => h (Fin.ext e.symm)
  simp [State.lease, State.reset, resetLeases, h']

/-- Lease 0's period timer runs from 0 after power-on reset (R31). -/
theorem timer_reset_zero : State.reset.timer 0 = { count := 0, running := true, raised := 0 } := by
  simp [State.timer, State.reset, resetTimers]

/-- Every other period timer is stopped at 0 after power-on reset (R31). -/
theorem timer_reset_ne {l : LeaseId} (h : l ≠ 0) : State.reset.timer l = { count := 0, running := false, raised := 0 } := by
  have h' : (0 : Nat) ≠ l.val := fun e => h (Fin.ext e.symm)
  simp [State.timer, State.reset, resetTimers, h']

@[simp] theorem slot_reset (p : PortId) (t : StreamTag) : State.reset.slot p t = none := by
  simp [State.slot, State.reset]

@[simp] theorem port_reset (p : PortId) : State.reset.port p = Port.powerOn := by
  simp [State.port, State.reset]

@[simp] theorem holdQueue_reset (l : LeaseId) : State.reset.holdQueue l = [] := by
  simp [State.holdQueue, State.reset]

@[simp] theorem release_reset (l : LeaseId) : State.reset.release l = .idle := by
  simp [State.release, State.reset]

@[simp] theorem tag_reset (t : TagId) : State.reset.tag t = .free := by
  simp [State.tag, State.reset]

/-- Every stall limit reads 0 after power-on reset (R75). -/
theorem windowRead_reset_stallLimit (p : Fin 8) : windowRead State.reset (0x040 + 4 * BitVec.ofNat 32 p.val) = 0 := by
  fin_cases p <;> rfl

/-! ### The laws at power-on reset -/

theorem attentionLaw_reset : AttentionLaw State.reset := by decide +kernel
theorem creditLaw_reset : CreditLaw State.reset := by decide +kernel
theorem streamLaw_reset : StreamLaw State.reset := fun p t l h => by simp at h
theorem boundSlotLaw_reset : BoundSlotLaw State.reset := by decide +kernel
theorem holdLaw_reset : HoldLaw State.reset := by decide +kernel
theorem outstandingLaw_reset : OutstandingLaw State.reset := by decide +kernel
theorem queueLaw_reset : QueueLaw State.reset := by decide
theorem committedLaw_reset : CommittedLaw State.reset := by decide +kernel
theorem leaseZeroLaw_reset : LeaseZeroLaw State.reset := by
  unfold LeaseZeroLaw
  rw [lease_reset_zero]
  simp [Lease.engineRecord, Lease.freeRecord, State.reset, State.holdQueue, State.release, State.slot]
theorem engineLaw_reset : EngineLaw State.reset := ⟨rfl, rfl, by decide, by decide, by decide, rfl⟩
theorem engineRequestLaw_reset : EngineRequestLaw State.reset := by decide +kernel
theorem linkLaw_reset : LinkLaw State.reset := fun _ t => tag_reset t
theorem portLaw_reset : PortLaw State.reset := fun p => by simp [Port.powerOn]
theorem leaseStateLaw_reset : LeaseStateLaw State.reset := leaseStateLaw_of_cases _ (by decide +kernel)
theorem periodLaw_reset : PeriodLaw State.reset := by decide +kernel
theorem regimeLaw_reset : RegimeLaw State.reset := regimeLaw_of_cases _ (by decide +kernel)
theorem releaseLaw_reset : ReleaseLaw State.reset := fun l h => absurd (release_reset l) h

end Sys2Proof.Machine

open Sys2Proof Sys2Proof.Machine

/-- Settles O3: the tables by the lemmas on each, the registers of the window by reading them. -/
theorem resetValues : Obligations.ResetValues := by
  unfold Obligations.ResetValues
  simp only [lease_reset_zero]
  refine ⟨?_, fun l h => lease_reset_ne h, timer_reset_zero, fun l h => timer_reset_ne h, slot_reset, ?_, ?_, rfl, by decide, rfl, rfl, rfl,
    tag_reset, rfl, ?_⟩
  · simp [Lease.engineRecord, Lease.freeRecord]
  · simp [Port.powerOn]
  · simp
  · refine ⟨rfl, rfl, rfl, rfl, rfl, rfl, rfl, rfl, rfl, rfl, rfl, rfl, rfl, windowRead_reset_stallLimit, ?_⟩
    decide +kernel

/-- Settles O4: the 17 laws one by one. -/
theorem lawsHoldAtReset : Obligations.LawsHoldAtReset where
  attention := attentionLaw_reset
  credit := creditLaw_reset
  stream := streamLaw_reset
  boundSlot := boundSlotLaw_reset
  hold := holdLaw_reset
  outstanding := outstandingLaw_reset
  queue := queueLaw_reset
  committed := committedLaw_reset
  leaseZero := leaseZeroLaw_reset
  engine := engineLaw_reset
  engineRequest := engineRequestLaw_reset
  link := linkLaw_reset
  port := portLaw_reset
  leaseState := leaseStateLaw_reset
  period := periodLaw_reset
  regime := regimeLaw_reset
  release := releaseLaw_reset

end

section
/-!
PROOF. The laws of Sys2Proof/Safety.lean told of one record: what a lease record, a port unit and the engine satisfy by
themselves, and what the calculations on one record keep.
-/

namespace Sys2Proof.Machine

/-! ### The laws of one record -/

/-- The credit law of one record (R5, R6). -/
def Lease.CreditOk (r : Lease) : Prop :=
  r.spent ≤ r.credit ∧ r.credit ≤ Config.max32 ∧ r.carryLimit ≤ r.budget ∧ r.budget ≤ 65535

/-- The regime law of one record (R44), by class and regime. -/
structure Lease.RegimeOk (r : Lease) : Prop where
  spans : r.cls = .shared → 1 ≤ r.reviewSpan ∧ r.reviewSpan ≤ 63 ∧ 1 ≤ r.curbLength ∧ r.curbLength ≤ 63 ∧
    r.reviewAccumulator ≤ Config.max32 ∧ r.carryLimit = 0 ∧ r.overdrawPermitted = false
  watch : r.cls = .shared → r.regime = .watch → r.curbRemaining = 0 ∧ 1 ≤ r.reviewCounter ∧ r.reviewCounter ≤ r.reviewSpan
  curb : r.cls = .shared → r.regime = .curb → r.reviewCounter = 0 ∧ 1 ≤ r.curbRemaining ∧ r.curbRemaining ≤ r.curbLength
  other : r.cls ≠ .shared → r.regime = .watch ∧ r.reviewAccumulator = 0 ∧ r.reviewCounter = 0 ∧ r.curbRemaining = 0 ∧
    r.watchThreshold = 0 ∧ r.reviewSpan = 0 ∧ r.curbLength = 0

/-- The lease-state law of one record and its period timer (R11, R14, R28, R29). -/
structure Lease.StateOk (r : Lease) (t : PeriodTimer) : Prop where
  free : r.state = .free → r = Lease.freeRecord r.notify r.reasons ∧ t = { count := 0, running := false, raised := 0 }
  draining : r.state = .draining → r.drainCause ≠ none ∧ 0 < r.outstanding ∧ t.running = false ∧ t.raised = 0
  active : r.state = .opened ∨ r.state = .suspended → r.drainCause = none ∧ t.running = true

/-- The port law of one port unit (R67, R69, R70, R71). -/
def Port.Ok (u : Port) : Prop :=
  u.fifo.length ≤ 8 ∧ (u.head = .idle ↔ u.fifo = []) ∧ (u.head = .blocked → u.examined ≠ none) ∧
    (u.link ≠ [] → u.fifo.length = 8) ∧ u.stallTimer ≤ 65535 ∧ u.stallLimit ≤ 65535

theorem regimeLaw_iff (s : State) : RegimeLaw s ↔ ∀ l : LeaseId, (s.lease l).RegimeOk := by
  constructor
  · intro h l
    have hl := h l
    constructor
    · intro e
      rw [e] at hl
      obtain ⟨a, b, c, d, f, g, i, -⟩ := hl
      exact ⟨a, b, c, d, f, g, i⟩
    · intro e e'
      rw [e] at hl
      obtain ⟨-, -, -, -, -, -, -, hm⟩ := hl
      rw [e'] at hm
      exact hm
    · intro e e'
      rw [e] at hl
      obtain ⟨-, -, -, -, -, -, -, hm⟩ := hl
      rw [e'] at hm
      exact hm
    · intro e
      cases hc : (s.lease l).cls <;> rw [hc] at hl
      · exact hl
      · exact hl
      · exact absurd hc e
  · intro h
    exact regimeLaw_of_cases s fun l => ⟨(h l).spans, (h l).watch, (h l).curb, (h l).other⟩

theorem leaseStateLaw_iff (s : State) : LeaseStateLaw s ↔ ∀ l : LeaseId, (s.lease l).StateOk (s.timer l) := by
  constructor
  · intro h l
    have hl := h l
    constructor
    · intro e
      rw [e] at hl
      exact hl
    · intro e
      rw [e] at hl
      exact hl
    · intro e
      rcases e with e | e <;> rw [e] at hl <;> exact hl
  · intro h
    exact leaseStateLaw_of_cases s fun l => ⟨(h l).free, (h l).draining, (h l).active⟩

/-! ### Saturating sums (00 §0.5) -/

theorem satAdd32_le (a b : Nat) : satAdd32 a b ≤ Config.max32 := by
  unfold satAdd32
  omega

theorem satAdd32_le_add (a b : Nat) : satAdd32 a b ≤ a + b := by
  unfold satAdd32
  omega

theorem le_satAdd32 {a : Nat} (b : Nat) (h : a ≤ Config.max32) : a ≤ satAdd32 a b := by
  unfold satAdd32
  omega

/-! ### Adjustments: changes of a record that leave its place in the other tables -/

/-- A change of a record that leaves its terms, sets and counts of other tables alone, keeps an OPEN or SUSPENDED lease one of the
two, and keeps the credit and the regime law. -/
structure Lease.Adjusts (r r' : Lease) : Prop where
  fixed : r' = { r with
    state := r'.state
    credit := r'.credit
    spent := r'.spent
    periodsRemaining := r'.periodsRemaining
    regime := r'.regime
    reviewAccumulator := r'.reviewAccumulator
    reviewCounter := r'.reviewCounter
    curbRemaining := r'.curbRemaining
    admittedBeats := r'.admittedBeats
    overdrawBeats := r'.overdrawBeats
    heldTotal := r'.heldTotal
    refusedCount := r'.refusedCount
    faultCount := r'.faultCount }
  state : r'.state = r.state ∨ r.active = true ∧ r'.active = true
  credit : r.CreditOk → r'.CreditOk
  regime : r.RegimeOk → r'.RegimeOk

namespace Lease.Adjusts

variable {r r' : Lease} (h : r.Adjusts r')

include h

theorem active : r'.active = r.active := by
  rcases h.state with e | ⟨e, e'⟩
  · unfold Lease.active
    rw [e]
  · rw [e, e']

theorem reasons : r'.reasons = r.reasons := by rw [h.fixed]
theorem notify : r'.notify = r.notify := by rw [h.fixed]
theorem cls : r'.cls = r.cls := by rw [h.fixed]
theorem k : r'.k = r.k := by rw [h.fixed]
theorem budget : r'.budget = r.budget := by rw [h.fixed]
theorem term : r'.term = r.term := by rw [h.fixed]
theorem holdLimit : r'.holdLimit = r.holdLimit := by rw [h.fixed]
theorem heldCount : r'.heldCount = r.heldCount := by rw [h.fixed]
theorem overdrawPermitted : r'.overdrawPermitted = r.overdrawPermitted := by rw [h.fixed]
theorem fence : r'.fence = r.fence := by rw [h.fixed]
theorem outstanding : r'.outstanding = r.outstanding := by rw [h.fixed]
theorem boundSlots : r'.boundSlots = r.boundSlots := by rw [h.fixed]
theorem drainCause : r'.drainCause = r.drainCause := by rw [h.fixed]

theorem commitment : r'.commitment = r.commitment := by
  unfold Lease.commitment Lease.rate
  rw [h.active, h.cls, h.k, h.budget]

end Lease.Adjusts

/-- A change of statistics and of periods remaining. -/
theorem Lease.adjusts_counts (r : Lease) (periods held refused faults overdrawn : Nat) :
    r.Adjusts { r with
      periodsRemaining := periods
      heldTotal := held
      refusedCount := refused
      faultCount := faults
      overdrawBeats := overdrawn } where
  fixed := rfl
  state := .inl rfl
  credit h := h
  regime h := ⟨h.spans, h.watch, h.curb, h.other⟩

/-- A suspension or a resumption (R167, R168). -/
theorem Lease.adjusts_state (r : Lease) {st : LeaseState} (h : r.active = true)
    (h' : st = .opened ∨ st = .suspended) : r.Adjusts { r with state := st } where
  fixed := rfl
  state := .inr ⟨h, (active_iff _).mpr h'⟩
  credit hc := hc
  regime hr := ⟨hr.spans, hr.watch, hr.curb, hr.other⟩

/-- The part of a charge that is the lease's own: spent, credit in WATCH, admitted beats (R6, R8, R100). -/
def Lease.spend (r : Lease) (length : Nat) : Lease := { r.charge length with outstanding := r.outstanding }

theorem Lease.charge_eq_spend (r : Lease) (length : Nat) :
    r.charge length = { r.spend length with outstanding := (r.spend length).outstanding + 1 } := rfl

/-- A charge that passes the credit test keeps spent within credit (R6, R96). -/
theorem Lease.spend_creditOk {r : Lease} {length : Nat} (short : r.creditShort length = false) (h : r.CreditOk) :
    (r.spend length).CreditOk := by
  obtain ⟨hs, hc, hl, hb⟩ := h
  refine ⟨?_, ?_, hl, hb⟩
  · show satAdd32 r.spent length ≤
      if r.cls = .shared ∧ r.regime = .watch then max r.credit (satAdd32 r.spent length) else r.credit
    split
    · exact le_max_right _ _
    · rename_i hw
      have tested : r.creditTested = true := by
        unfold Lease.creditTested
        cases hcls : r.cls <;> simp_all
        cases hreg : r.regime <;> simp_all
      have fits : r.spent + length ≤ r.credit := by simpa [Lease.creditShort, tested] using short
      exact (satAdd32_le_add _ _).trans fits
  · show (if r.cls = .shared ∧ r.regime = .watch then max r.credit (satAdd32 r.spent length) else r.credit) ≤ _
    split
    · exact max_le hc (satAdd32_le _ _)
    · exact hc

theorem Lease.adjusts_spend {r : Lease} {length : Nat} (short : r.creditShort length = false) :
    r.Adjusts (r.spend length) where
  fixed := rfl
  state := .inl rfl
  credit := Lease.spend_creditOk short
  regime h := ⟨h.spans, h.watch, h.curb, h.other⟩

/-! ### The new period of a record (R32, R34, R47) -/

theorem Lease.adjusts_refill (r : Lease) : r.Adjusts r.refill where
  fixed := rfl
  state := .inl rfl
  credit := by
    rintro ⟨-, -, hl, hb⟩
    refine ⟨Nat.zero_le _, ?_, hl, hb⟩
    show r.budget + min (r.credit - r.spent) r.carryLimit ≤ Config.max32
    unfold Config.max32
    omega
  regime hr := ⟨hr.spans, hr.watch, hr.curb, hr.other⟩

/-- What a regime step leaves of a record (R47). -/
theorem Lease.regimeStep_fixed (r : Lease) : r.regimeStep = { r with
    credit := r.budget
    spent := 0
    regime := r.regimeStep.regime
    reviewAccumulator := r.regimeStep.reviewAccumulator
    reviewCounter := r.regimeStep.reviewCounter
    curbRemaining := r.regimeStep.curbRemaining } := by
  unfold Lease.regimeStep Lease.watchStep Lease.curbStep
  cases r.regime
  · dsimp only
    split
    · rfl
    · split <;> rfl
  · dsimp only
    split <;> rfl

/-- The regime step in WATCH keeps the regime law: the review goes on, closes over the threshold, or begins again (R48). -/
theorem Lease.regimeOk_watchStep {r : Lease} (hc : r.cls = .shared) (hw : r.regime = .watch) (h : r.RegimeOk) :
    (r.watchStep).RegimeOk := by
  obtain ⟨h1, h2, h3, h4, h5, h6, h7⟩ := h.spans hc
  obtain ⟨w1, w2, w3⟩ := h.watch hc hw
  unfold Lease.watchStep
  dsimp only
  split
  · exact ⟨fun _ => ⟨h1, h2, h3, h4, satAdd32_le _ _, h6, h7⟩,
      fun _ _ => ⟨w1, ‹_›, (Nat.sub_le _ _).trans w3⟩, fun _ e => by simp [hw] at e, fun e => absurd hc e⟩
  · split
    · exact ⟨fun _ => ⟨h1, h2, h3, h4, satAdd32_le _ _, h6, h7⟩, fun _ e => by simp at e, fun _ _ => ⟨rfl, h3, le_rfl⟩,
        fun e => absurd hc e⟩
    · exact ⟨fun _ => ⟨h1, h2, h3, h4, Nat.zero_le _, h6, h7⟩, fun _ _ => ⟨w1, h1, le_rfl⟩, fun _ e => by simp [hw] at e,
        fun e => absurd hc e⟩

/-- The regime step in CURB keeps the regime law: the curb goes on or ends (R49). -/
theorem Lease.regimeOk_curbStep {r : Lease} (hc : r.cls = .shared) (hw : r.regime = .curb) (h : r.RegimeOk) :
    (r.curbStep).RegimeOk := by
  obtain ⟨h1, h2, h3, h4, h5, h6, h7⟩ := h.spans hc
  obtain ⟨c1, c2, c3⟩ := h.curb hc hw
  unfold Lease.curbStep
  dsimp only
  split
  · exact ⟨fun _ => ⟨h1, h2, h3, h4, h5, h6, h7⟩, fun _ e => by simp [hw] at e,
      fun _ _ => ⟨c1, ‹_›, (Nat.sub_le _ _).trans c3⟩, fun e => absurd hc e⟩
  · exact ⟨fun _ => ⟨h1, h2, h3, h4, Nat.zero_le _, h6, h7⟩, fun _ _ => ⟨rfl, h1, le_rfl⟩, fun _ e => by simp at e,
      fun e => absurd hc e⟩

theorem Lease.adjusts_regimeStep {r : Lease} (hc : r.cls = .shared) : r.Adjusts r.regimeStep where
  fixed := by rw [r.regimeStep_fixed]
  state := .inl (by rw [r.regimeStep_fixed])
  credit := by
    rintro ⟨-, -, hl, hb⟩
    rw [r.regimeStep_fixed]
    exact ⟨Nat.zero_le _, hb.trans (by decide), hl, hb⟩
  regime h := by
    unfold Lease.regimeStep
    cases hr : r.regime
    · have hw := Lease.regimeOk_watchStep hc hr h
      exact ⟨hw.spans, hw.watch, hw.curb, hw.other⟩
    · have hw := Lease.regimeOk_curbStep hc hr h
      exact ⟨hw.spans, hw.watch, hw.curb, hw.other⟩

/-- Step 2 of a period end, the refill or the regime step, is an adjustment (R32). -/
theorem Lease.adjusts_newPeriod (r : Lease) : r.Adjusts r.newPeriod := by
  unfold Lease.newPeriod
  cases hc : r.cls
  · exact r.adjusts_refill
  · exact r.adjusts_refill
  · exact Lease.adjusts_regimeStep hc

end Sys2Proof.Machine
end

section
/-!
PROOF. Drain start and the period end as one change of the state each (R16, R32).
-/

namespace Sys2Proof.Machine

/-! ### Drain start (R16) -/

/-- The record of a lease that takes drain start with `held` requests held, before the test of drain completion. -/
def Lease.draining (r : Lease) (cause : DrainCause) (held : Nat) : Lease :=
  { r with
    state := .draining
    drainCause := some cause
    boundSlots := 0
    heldCount := r.heldCount - held
    refusedCount := satAdd32 r.refusedCount held
    reasons := match cause with
      | .expired => r.raised .expired
      | .retired => r.reasons }

/-- The record of a lease after drain start: DRAINING, or FREE when nothing is outstanding (R16, R19). -/
def Lease.afterDrainStart (r : Lease) (cause : DrainCause) (held : Nat) : Lease :=
  if r.outstanding = 0 then (r.draining cause held).drained else r.draining cause held

/-- All that drain start changes but for its trigger. -/
def drainClaim (l : LeaseId) (cause : DrainCause) (s : State) : State :=
  { s with
    leases := s.leases.set l.val ((s.lease l).afterDrainStart cause (s.holdQueue l).length)
    timers := s.timers.set l.val { s.timer l with
      count := if (s.lease l).outstanding = 0 then 0 else (s.timer l).count
      running := false
      raised := 0 }
    committed := if (s.lease l).cls = .guaranteed then s.committed - (s.lease l).rate else s.committed
    streams := tabulate fun i : Fin 128 => if s.streams[i.val] = some l then none else s.streams[i.val]
    holdQueues := s.holdQueues.set l.val []
    releases := s.releases.set l.val .idle
    poolFree := s.poolFree + (s.holdQueue l).length
    attention := s.attentionAfter l ((s.lease l).afterDrainStart cause (s.holdQueue l).length).reasons
    intStatus := s.statusAfter l ((s.lease l).afterDrainStart cause (s.holdQueue l).length).reasons
    sent := s.sent ++ retiredResponses (s.holdQueue l) }

theorem releaseCommitment_eq (s : State) (l : LeaseId) : releaseCommitment l s =
    { s with committed := if (s.lease l).cls = .guaranteed then s.committed - (s.lease l).rate else s.committed } := by
  unfold releaseCommitment
  split <;> rfl

theorem refuseHeld_eq (s : State) (l : LeaseId) : refuseHeld l s =
    { s with
      leases := s.leases.set l.val (((s.lease l).countRefusals (s.holdQueue l).length).unhold (s.holdQueue l).length)
      holdQueues := s.holdQueues.set l.val []
      releases := s.releases.set l.val .idle
      poolFree := s.poolFree + (s.holdQueue l).length
      sent := s.sent ++ retiredResponses (s.holdQueue l) } := by
  simp only [refuseHeld, refuseRetired_eq]
  rfl

/-- Steps 1 to 5 of drain start (R16), with the record as EXPIRED finds it. -/
def drainSteps (l : LeaseId) (cause : DrainCause) (s : State) : State :=
  { s with
    leases := s.leases.set l.val { (s.lease l).draining cause (s.holdQueue l).length with reasons := (s.lease l).reasons }
    timers := s.timers.set l.val { s.timer l with running := false, raised := 0 }
    committed := if (s.lease l).cls = .guaranteed then s.committed - (s.lease l).rate else s.committed
    streams := tabulate fun i : Fin 128 => if s.streams[i.val] = some l then none else s.streams[i.val]
    holdQueues := s.holdQueues.set l.val []
    releases := s.releases.set l.val .idle
    poolFree := s.poolFree + (s.holdQueue l).length
    sent := s.sent ++ retiredResponses (s.holdQueue l) }

/-- Drain start slot, hold queue, committed sum and timer, as the model takes them one after another. -/
theorem drainSteps_eq (s : State) (l : LeaseId) (cause : DrainCause) :
    (let s1 := s.setLease l { s.lease l with state := .draining, drainCause := some cause }
     let s2 := releaseCommitment l (refuseHeld l (unbindAll l s1))
     s2.setTimer l { s2.timer l with running := false, raised := 0 }) = drainSteps l cause s := by
  simp only [releaseCommitment_eq, refuseHeld_eq, unbindAll, drainSteps]
  simp [State.setLease, State.setTimer, State.lease, State.timer, State.holdQueue, Lease.draining, Lease.unhold,
    Lease.countRefusals, Lease.rate]
  exact ⟨rfl, rfl⟩

/-- The attention set after a raising depends on the lease's reason set and the attention set alone. -/
theorem attentionAfter_congr {s t : State} {l : LeaseId} (hr : (t.lease l).reasons = (s.lease l).reasons)
    (ha : t.attention = s.attention) (after : ReasonSet) : t.attentionAfter l after = s.attentionAfter l after := by
  unfold State.attentionAfter
  rw [hr, ha]

theorem statusAfter_congr {s t : State} {l : LeaseId} (hr : (t.lease l).reasons = (s.lease l).reasons)
    (hi : t.intStatus = s.intStatus) (after : ReasonSet) : t.statusAfter l after = s.statusAfter l after := by
  unfold State.statusAfter
  rw [hr, hi]

/-- Reasons that join in two raisings bring the lease into the attention set as they do together. -/
theorem attentionAfter_attentionAfter {s t : State} {l : LeaseId} {first second : ReasonSet}
    (hr : (t.lease l).reasons = first) (ha : t.attention = s.attentionAfter l first)
    (first_grows : first = 0 → (s.lease l).reasons = 0) (second_grows : second = 0 → first = 0) :
    t.attentionAfter l second = s.attentionAfter l second := by
  unfold State.attentionAfter at *
  rw [hr, ha]
  by_cases h0 : (s.lease l).reasons = 0 <;> by_cases h1 : first = 0 <;> by_cases h2 : second = 0 <;> simp_all

theorem statusAfter_statusAfter {s t : State} {l : LeaseId} {first second : ReasonSet}
    (hr : (t.lease l).reasons = first) (hi : t.intStatus = s.statusAfter l first)
    (first_grows : first = 0 → (s.lease l).reasons = 0) (second_grows : second = 0 → first = 0) :
    t.statusAfter l second = s.statusAfter l second := by
  unfold State.statusAfter at *
  rw [hr, hi]
  by_cases h0 : (s.lease l).reasons = 0 <;> by_cases h1 : first = 0 <;> by_cases h2 : second = 0 <;> simp_all

/-- Drain start before the test of drain completion: its five steps, with EXPIRED raised at an expiry (R16, R33). -/
def drainRaised (l : LeaseId) (cause : DrainCause) (s : State) : State :=
  { drainSteps l cause s with
    leases := s.leases.set l.val ((s.lease l).draining cause (s.holdQueue l).length)
    attention := s.attentionAfter l ((s.lease l).draining cause (s.holdQueue l).length).reasons
    intStatus := s.statusAfter l ((s.lease l).draining cause (s.holdQueue l).length).reasons }

theorem lease_drainSteps (s : State) (l : LeaseId) (cause : DrainCause) : (drainSteps l cause s).lease l =
    { (s.lease l).draining cause (s.holdQueue l).length with reasons := (s.lease l).reasons } := by
  simp [State.lease, drainSteps]

theorem raiseReason_drainSteps (s : State) (l : LeaseId) :
    raiseReason l .expired (drainSteps l .expired s) = drainRaised l .expired s := by
  have hr : ((drainSteps l .expired s).lease l).reasons = (s.lease l).reasons := by rw [lease_drainSteps]
  rw [raiseReason_eq, attentionAfter_congr hr rfl, statusAfter_congr hr rfl, lease_drainSteps]
  simp only [drainSteps, drainRaised, Vector.set_set]
  rfl

theorem drainSteps_retired (s : State) (l : LeaseId) : drainSteps l .retired s = drainRaised l .retired s := by
  simp [State.attentionAfter, State.statusAfter, Lease.draining, drainSteps, drainRaised]

/-- Raisings only add to the reason set of a lease that takes drain start. -/
theorem Lease.reasons_eq_zero_of_draining {r : Lease} {cause : DrainCause} {held : Nat}
    (h : (r.draining cause held).reasons = 0) : r.reasons = 0 := by
  cases cause with
  | expired => exact ((r.raised_eq_zero .expired).mp h).1
  | retired => exact h

theorem Lease.reasons_eq_zero_of_drained {r : Lease} (h : r.drained.reasons = 0) : r.reasons = 0 :=
  ((r.raised_eq_zero .freed).mp h).1

/-- The test of drain completion ends the claim: DRAINING with work outstanding, FREE at outstanding 0 (R19). -/
theorem completeIfDrained_drainRaised (s : State) (l : LeaseId) (cause : DrainCause) :
    completeIfDrained l (drainRaised l cause s) = drainClaim l cause s := by
  have hl : (drainRaised l cause s).lease l = (s.lease l).draining cause (s.holdQueue l).length := by
    simp [State.lease, drainRaised]
  have ht : (drainRaised l cause s).timer l = { s.timer l with running := false, raised := 0 } := by
    simp [State.timer, drainRaised, drainSteps]
  unfold completeIfDrained
  rw [hl]
  by_cases ho : (s.lease l).outstanding = 0
  · have after : (s.lease l).afterDrainStart cause (s.holdQueue l).length =
        ((s.lease l).draining cause (s.holdQueue l).length).drained := by simp [Lease.afterDrainStart, ho]
    have ha := attentionAfter_attentionAfter (congrArg Lease.reasons hl) rfl Lease.reasons_eq_zero_of_draining
      (Lease.reasons_eq_zero_of_drained (r := (s.lease l).draining cause (s.holdQueue l).length))
    have hi := statusAfter_statusAfter (congrArg Lease.reasons hl) rfl Lease.reasons_eq_zero_of_draining
      (Lease.reasons_eq_zero_of_drained (r := (s.lease l).draining cause (s.holdQueue l).length))
    rw [if_pos ⟨rfl, ho⟩, drainCompletion_eq, hl, ht]
    simp only [drainClaim, after, ← ha, ← hi]
    simp [drainRaised, drainSteps, PeriodTimer.drained, ho]
    exact ⟨rfl, rfl⟩
  · rw [if_neg fun h => ho h.2]
    simp [drainClaim, Lease.afterDrainStart, ho, drainRaised, drainSteps]

/-- Drain start is its claim on the tables, with one trigger when a slot or a held request went (R16, R19). -/
theorem drainStart_eq (s : State) (l : LeaseId) (cause : DrainCause) :
    drainStart l cause s =
      handTriggerIf (s.streams.toList.contains (some l) || !(s.holdQueue l).isEmpty) (drainClaim l cause s) := by
  have hs := drainSteps_eq s l cause
  dsimp only at hs
  rw [← completeIfDrained_drainRaised]
  unfold drainStart
  dsimp only
  rw [hs]
  cases cause with
  | expired => rw [← raiseReason_drainSteps]
  | retired => rw [← drainSteps_retired]

end Sys2Proof.Machine
end

section
/-!
PROOF. Drain start and the period end of a SHARED lease, field by field (O43, O17).
-/

namespace Sys2Proof.Machine

/-! ### The slots of the stream map -/

/-- Every place of the map is a slot (R83). -/
theorem slotIndex_surjective (i : Fin 128) : ∃ (p : PortId) (t : StreamTag), slotIndex p t = i :=
  ⟨⟨i.val / 16, by omega⟩, ⟨i.val % 16, by omega⟩, Fin.ext (by simp only [slotIndex]; omega)⟩

/-- The map names a lease when one of its slots does. -/
theorem streams_contains_iff (s : State) (b : Option LeaseId) :
    s.streams.toList.contains b = true ↔ ∃ (p : PortId) (t : StreamTag), s.slot p t = b := by
  rw [List.contains_iff_mem, List.mem_iff_getElem]
  constructor
  · rintro ⟨i, hi, e⟩
    obtain ⟨p, t, hpt⟩ := slotIndex_surjective ⟨i, by simpa using hi⟩
    refine ⟨p, t, ?_⟩
    have : (slotIndex p t).val = i := by rw [hpt]
    simp only [State.slot, this]
    simpa using e
  · rintro ⟨p, t, e⟩
    exact ⟨(slotIndex p t).val, by simp, by simpa [State.slot] using e⟩

/-! ### The tables after the claim of drain start -/

theorem slot_drainClaim (s : State) (l : LeaseId) (cause : DrainCause) (p : PortId) (t : StreamTag) :
    (drainClaim l cause s).slot p t = if s.slot p t = some l then none else s.slot p t := by
  simp only [State.slot, drainClaim, getElem_tabulate]
  rfl

@[simp] theorem port_drainClaim (s : State) (l : LeaseId) (cause : DrainCause) (p : PortId) :
    (drainClaim l cause s).port p = s.port p := rfl

theorem release_drainClaim (s : State) (l : LeaseId) (cause : DrainCause) (j : LeaseId) :
    (drainClaim l cause s).release j = if l = j then .idle else s.release j := by
  simp only [State.release, drainClaim, Vector.getElem_set, Fin.ext_iff]

@[simp] theorem slot_handTriggerIf (s : State) (b : Bool) (p : PortId) (t : StreamTag) :
    (handTriggerIf b s).slot p t = s.slot p t := by
  simp only [State.slot, handTriggerIf_streams]

/-- A trigger changes the port units, the releases and the engine's request, and nothing else (R72, R103, R114). -/
theorem handTriggerIf_fixed (s : State) (b : Bool) : handTriggerIf b s =
    { s with ports := (handTriggerIf b s).ports, releases := (handTriggerIf b s).releases, engine := (handTriggerIf b s).engine } := by
  cases b <;> rfl

theorem ReleaseState.retrigger_eq (r : ReleaseState) : r.retrigger = if r = .paused then .running else r := by
  cases r <;> rfl

/-- The draining record, with the held count an even match of its hold queue (R110). -/
theorem Lease.draining_eq {r : Lease} {held : Nat} (h : r.heldCount = held) (cause : DrainCause) :
    r.draining cause held = { r with
      state := .draining
      drainCause := some cause
      boundSlots := 0
      heldCount := 0
      refusedCount := min (r.refusedCount + held) 4294967295
      reasons := if cause = .expired ∧ r.notify &&& 0b0001#4 ≠ 0 then r.reasons ||| 0b0001#4 else r.reasons } := by
  cases cause with
  | retired => simp [Lease.draining, h, satAdd32, Config.max32]
  | expired =>
    have hr : r.raised .expired =
        if (DrainCause.expired = .expired) ∧ r.notify &&& 0b0001#4 ≠ 0 then r.reasons ||| 0b0001#4 else r.reasons := by
      by_cases hn : r.notify &&& 0b0001#4 = 0
      · rw [if_neg fun hc => hc.2 hn]
        exact if_pos hn
      · rw [if_pos ⟨rfl, hn⟩]
        exact if_neg hn
    simp only [Lease.draining, hr, h, satAdd32, Config.max32, Nat.sub_self]

end Sys2Proof.Machine

open Sys2Proof Sys2Proof.Machine

/-- Settles O43: drain start is `drainClaim` and a trigger when something went (`drainStart_eq`); the trigger's part by cases. -/
theorem drainStartChanges : Obligations.DrainStartChanges := by
  unfold Obligations.DrainStartChanges
  intro s l cause _ held
  have changed_iff : (s.streams.toList.contains (some l) || !(s.holdQueue l).isEmpty) = true ↔
      (∃ p t, s.slot p t = some l) ∨ s.holdQueue l ≠ [] := by
    rw [Bool.or_eq_true, streams_contains_iff]
    simp
  simp only
  rw [drainStart_eq]
  generalize (s.streams.toList.contains (some l) || !(s.holdQueue l).isEmpty) = changed at changed_iff ⊢
  rw [← changed_iff]
  refine ⟨?_, ?_, ?_, ?_, ?_⟩
  · conv_lhs => rw [handTriggerIf_fixed]
    simp only [drainClaim, Lease.afterDrainStart, Lease.draining_eq held, handTriggerIf_streams]
    rfl
  · intro p t
    rw [slot_handTriggerIf, slot_drainClaim]
  · cases changed <;> simp [handTriggerIf_eq, release_drainClaim, ReleaseState.retrigger]
  · rintro rfl
    refine ⟨fun p => ?_, fun j hj => ?_, ?_⟩
    · simp [handTriggerIf_eq, Port.hand]
    · simp [handTriggerIf_eq, release_drainClaim, hj.symm, ReleaseState.retrigger_eq]
    · rfl
  · intro h
    rw [Bool.not_eq_true] at h
    subst h
    refine ⟨rfl, fun j hj => ?_, rfl⟩
    simp [handTriggerIf_eq, release_drainClaim, hj.symm]

end

section
/-!
PROOF. Raisings and the regime step told by cases, and the obligation about the regime step of a period end (O17).
-/

namespace Sys2Proof.Machine

/-! ### The raising of a reason (R10, R178) -/

/-- A raising by the notify set: nothing when it does not hold the reason; otherwise the reason joins, and with a reason set that was
empty the lease joins the attention set. -/
theorem raiseReason_eq_ite (s : State) (l : LeaseId) (why : Reason) :
    raiseReason l why s =
      if (s.lease l).notify &&& why.mask = 0 then s
      else { s with
        leases := s.leases.set l.val { s.lease l with reasons := (s.lease l).reasons ||| why.mask }
        attention := if (s.lease l).reasons = 0 then s.attention ||| 1#64 <<< l.val else s.attention
        intStatus := if (s.lease l).reasons = 0 then s.intStatus ||| 0b000001#6 else s.intStatus } := by
  unfold raiseReason
  by_cases hn : (s.lease l).notify &&& why.mask = 0
  · rw [if_pos hn, if_pos hn]
  · rw [if_neg hn, if_neg hn]
    by_cases h0 : (s.lease l).reasons = 0
    · rw [if_pos h0, if_pos h0, if_pos h0, h0]
      have : (0 : ReasonSet) ||| why.mask = why.mask := BitVec.zero_or
      rw [this]
      rfl
    · rw [if_neg h0, if_neg h0, if_neg h0]
      rfl

/-- A raising leaves the lease's state. -/
theorem state_raiseReason (s : State) (l : LeaseId) (why : Reason) :
    ((raiseReason l why s).lease l).state = (s.lease l).state := by
  rw [lease_of_set s (raiseReason_leases s l why) l, if_pos rfl]

/-! ### The period end (R32, R47 to R49) -/

/-- Step 1 of a period end on a record: a termed lease counts one period off (R32). -/
def Lease.countedOff (r : Lease) : Lease :=
  { r with periodsRemaining := if r.term = 0 then r.periodsRemaining else r.periodsRemaining - 1 }

/-- A period end that does not expire: step 1 counts a period off a termed lease, then the period begins (R32). -/
theorem takePeriodEnd_of_not_expiring {s : State} {l : LeaseId}
    (h : (s.lease l).term = 0 ∨ 1 < (s.lease l).periodsRemaining) :
    takePeriodEnd l s = beginPeriod l (s.setLease l (s.lease l).countedOff) := by
  unfold takePeriodEnd countPeriod Lease.countedOff
  by_cases ht : (s.lease l).term = 0
  · rw [if_pos ht, if_pos ht]
    exact congrArg (beginPeriod l) (setLease_lease s l).symm
  · have hp : (s.lease l).periodsRemaining - 1 ≠ 0 := by
      rcases h with h | h
      · exact absurd h ht
      · omega
    simp only [ht, if_false, lease_setLease_self, hp]

/-- A period end is taken on an OPEN or SUSPENDED lease with one raised (R29). -/
theorem exec_periodEnd {s : State} {l : LeaseId} (hr : (s.timer l).raised ≠ 0)
    (ha : (s.lease l).state = .opened ∨ (s.lease l).state = .suspended) :
    exec (.periodEnd l) s = .next (takePeriodEnd l (s.setTimer l { s.timer l with raised := (s.timer l).raised - 1 })) :=
  if_pos ⟨Nat.pos_of_ne_zero hr, (active_iff _).mpr ha⟩

/-- A regime step enters CURB when a review closes over the threshold (R48, step 4). -/
theorem Lease.entersCurb_iff (r : Lease) : r.entersCurb = true ↔ r.regime = .watch ∧ r.regimeStep.regime = .curb := by
  simp [Lease.entersCurb]

/-- The period of a SHARED lease begins with the regime step, CURBED raised on entry to CURB, the release trigger and the
re-examination trigger (R32, R47, R48). -/
theorem beginPeriod_shared {s : State} {l : LeaseId} {r : Lease} (hr : s.lease l = r) (hc : r.cls = .shared) :
    beginPeriod l s = handTrigger (releaseTrigger l
      (if r.regime = .watch ∧ r.regimeStep.regime = .curb then raiseReason l .curbed (s.setLease l r.regimeStep)
        else s.setLease l r.regimeStep)) := by
  subst hr
  unfold beginPeriod
  simp only [hc, true_and, Lease.entersCurb_iff, Lease.newPeriod]

/-- A regime step leaves the lease's state. -/
theorem Lease.state_regimeStep (r : Lease) : r.regimeStep.state = r.state := by rw [r.regimeStep_fixed]

/-- A release trigger after a raising is decided by the record and the hold queue as they stood. -/
theorem releaseTrigger_raiseReason_setLease (s : State) (l : LeaseId) (r : Lease) (b : Prop) [Decidable b] (why : Reason) :
    releaseTrigger l (if b then raiseReason l why (s.setLease l r) else s.setLease l r) =
      if r.state = .opened ∧ s.holdQueue l ≠ [] then
        (if b then raiseReason l why (s.setLease l r) else s.setLease l r).setRelease l .running
      else if b then raiseReason l why (s.setLease l r) else s.setLease l r := by
  unfold releaseTrigger
  have hs : ((if b then raiseReason l why (s.setLease l r) else s.setLease l r).lease l).state = r.state := by
    split
    · rw [state_raiseReason, lease_setLease_self]
    · rw [lease_setLease_self]
  have hq : (if b then raiseReason l why (s.setLease l r) else s.setLease l r).holdQueue l = s.holdQueue l := by
    split
    · simp only [State.holdQueue, raiseReason_holdQueues, setLease_holdQueues]
    · rw [holdQueue_setLease]
  rw [hs, hq]

end Sys2Proof.Machine

open Sys2Proof Sys2Proof.Machine

/-- Settles O17: the raising by `raiseReason_eq_ite`, the period end by `beginPeriod_shared` with Table 3-2 row by row. -/
theorem periodEndStepsRegime : Obligations.PeriodEndStepsRegime := by
  unfold Obligations.PeriodEndStepsRegime
  refine ⟨fun s l why => ?_, fun s l hr ha hc hp => ?_⟩
  · cases why
    · exact raiseReason_eq_ite s l .expired
    · exact raiseReason_eq_ite s l .curbed
    · exact raiseReason_eq_ite s l .freed
    · exact raiseReason_eq_ite s l .fault
  · intro old sum base stepped counted raised
    have step : old.countedOff.regimeStep = stepped := by
      unfold Lease.regimeStep Lease.countedOff Lease.watchStep Lease.curbStep
      cases hg : old.regime with
      | watch =>
        by_cases going : 1 < old.reviewCounter
        · simp [hg, stepped, base, sum, satAdd32, Config.max32, going]
        · by_cases above : old.watchThreshold < min (old.reviewAccumulator + old.spent) 4294967295
          · simp [hg, stepped, base, sum, satAdd32, Config.max32, going, above]
          · simp [hg, stepped, base, sum, satAdd32, Config.max32, going, above]
      | curb =>
        by_cases going : 1 < old.curbRemaining
        · simp [hg, stepped, base, going]
        · simp [hg, stepped, base, going]
    have state : stepped.state = old.state := by
      rw [← step, Lease.state_regimeStep]
      rfl
    have taken : takePeriodEnd l (s.setTimer l { s.timer l with raised := (s.timer l).raised - 1 }) =
        beginPeriod l ((s.setTimer l { s.timer l with raised := (s.timer l).raised - 1 }).setLease l old.countedOff) :=
      takePeriodEnd_of_not_expiring (s := s.setTimer l { s.timer l with raised := (s.timer l).raised - 1 }) hp
    rw [exec_periodEnd hr ha, taken, beginPeriod_shared (lease_setLease_self _ _ old.countedOff) hc, setLease_setLease,
      releaseTrigger_raiseReason_setLease, step, state]
    rfl

end

section
/-!
PROOF. What a step can do to the tables, as a short list of changes. Every step is a sequence of these changes (told further
below), so that a law that each change keeps is kept by every step.
-/

namespace Sys2Proof.Machine

/-! ### The engine by itself -/

/-- The engine law of the engine by itself (R141, R142, R143). -/
def Engine.Ok (e : Engine) : Prop :=
  validRingSize e.ringSize = true ∧ e.ringBase.toNat % 4096 = 0 ∧
    e.submit < e.ringSize ∧ e.fetch < e.ringSize ∧ e.complete < e.ringSize ∧
    (match e.state with
     | .stopped => e.complete = e.fetch
     | .halted => e.complete = e.fetch
     | .idle => e.complete = e.fetch ∧ e.submit = e.fetch
     | .busy .fetch _ _ => e.complete = e.fetch ∧ e.submit ≠ e.complete
     | .busy (.snapshot _ _ _) _ _ => e.fetch = e.next e.complete ∧ e.submit ≠ e.complete
     | .busy (.completion _) _ _ => e.fetch = e.next e.complete ∧ e.submit ≠ e.complete)

theorem engineLaw_iff (s : State) : EngineLaw s ↔ s.engine.Ok := Iff.rfl

/-- The engine entries that stand in the G queue: one while the request is PLACED (R146). -/
def EngineState.placed : EngineState → Nat
  | .busy _ .placed _ => 1
  | _ => 0

/-- The engine tags that are ISSUED: one while the request is ISSUED (R146). -/
def EngineState.issued : EngineState → Nat
  | .busy _ .issued _ => 1
  | _ => 0

theorem engineRequestLaw_iff (s : State) : EngineRequestLaw s ↔
    s.gQueue.countP (fun e => e.origin.isEngine) = s.engine.state.placed ∧
      s.tags.toList.countP Tag.isEngine = s.engine.state.issued ∧ s.sQueue.countP (fun e => e.origin.isEngine) = 0 := Iff.rfl

/-- The engine after a trigger: a WAITING request PRESENTED again (R103). -/
def Engine.retrigger (e : Engine) : Engine := { e with state := e.state.retrigger }

@[simp] theorem EngineState.placed_retrigger (e : EngineState) : e.retrigger.placed = e.placed := by
  unfold EngineState.retrigger
  split
  · rfl
  · rfl

@[simp] theorem EngineState.issued_retrigger (e : EngineState) : e.retrigger.issued = e.issued := by
  unfold EngineState.retrigger
  split
  · rfl
  · rfl

@[simp] theorem EngineState.retrigger_retrigger (e : EngineState) : e.retrigger.retrigger = e.retrigger := by
  rcases e with _ | _ | ⟨step, phase, stopPending⟩ | _
  · rfl
  · rfl
  · cases phase <;> rfl
  · rfl

theorem Engine.ok_retrigger {e : Engine} (h : e.Ok) : e.retrigger.Ok := by
  obtain ⟨state, base, size, submit, fetch, complete, fault, mode⟩ := e
  rcases state with _ | _ | ⟨step, phase, stopPending⟩ | _
  · exact h
  · exact h
  · cases phase with
    | waiting => cases step <;> exact h
    | presented => exact h
    | placed => exact h
    | issued => exact h
  · exact h

/-! ### Changes of the lease tables -/

/-- Something stands that keeps a lease from FREE: its own state, a slot, an ISSUED tag, or the engine, whose lease it is. -/
def State.Live (s : State) (l : LeaseId) : Prop :=
  (s.lease l).state ≠ .free ∨ (∃ p t, s.slot p t = some l) ∨ (∃ t f, s.tag t = .issued f ∧ f.lease = l) ∨ l = 0

/-- A period timer counts, or one of its period ends is taken (R28, R29). -/
structure PeriodTimer.Follows (k : Nat) (t t' : PeriodTimer) : Prop where
  running : t'.running = t.running
  stopped : t.running = false → t.raised = 0 → t' = t
  count : t.count < periodLength k → t'.count < periodLength k

/-- A slot of the map comes to name `b`, and the bound-slot counts follow (R85, R86). -/
def rebindSlot (p : PortId) (t : StreamTag) (b : Option LeaseId) (s : State) : State :=
  { s with
    leases := tabulate fun l => { s.lease l with
      boundSlots := (s.lease l).boundSlots - (if s.slot p t = some l then 1 else 0) + (if b = some l then 1 else 0) }
    streams := s.streams.set (slotIndex p t).val b }

/-- The record and the committed sum after a RESIZE_LEASE that is taken (R164). -/
def resizeRecord (l : LeaseId) (p : ResizeParams) (s : State) : State :=
  { s with
    leases := s.leases.set l.val
      ((s.lease l).resize p.budget p.carryLimit p.holdLimit p.watchThreshold p.reviewSpan p.curbLength)
    committed := if (s.lease l).cls = .guaranteed then committedWith s l p.budget else s.committed }

/-- The record, the timer and the committed sum after an OPEN_LEASE that is taken (R161). -/
def openRecord (l : LeaseId) (c : LeaseClass) (f : Option Fence) (p : OpenParams) (s : State) : State :=
  { s with
    leases := s.leases.set l.val ((s.lease l).opening c f p)
    timers := s.timers.set l.val { count := 0, running := true, raised := 0 }
    committed := if c = .guaranteed then s.committed + rateOf p.budget p.k else s.committed }

theorem openLeaseAt_eq (l : LeaseId) (c : LeaseClass) (f : Option Fence) (p : OpenParams) (s : State) :
    openLeaseAt l c f p s = openRecord l c f p s := by
  unfold openLeaseAt openRecord
  split <;> rfl

/-- The changes that commands of the ring and period ends are made of. They touch neither the dispatch queues nor the tags, and of
the engine its waiting request alone. -/
inductive LeaseChange : State → State → Prop where
  /-- Fields that no law speaks of. -/
  | quiet (s : State) (timebase : Timebase) (lastServed : Fin 72) (readyLevel : Bool) (responseTimeout : Nat)
      (intStatus intEnable : BitVec 6) (sent : List Response) (memoryOut : List MemoryOut) (freeIndex : Nat)
      (delayed : List (List PortId)) (pending : List Instr) :
      LeaseChange s { s with
        timebase := timebase
        lastServed := lastServed
        readyLevel := readyLevel
        responseTimeout := responseTimeout
        intStatus := intStatus
        intEnable := intEnable
        sent := sent
        memoryOut := memoryOut
        freeIndex := freeIndex
        delayed := delayed
        pending := pending }
  | ports (s : State) (ports : Vector Port 8) (ok : ∀ p : PortId, (s.port p).Ok → ports[p.val].Ok) :
      LeaseChange s { s with ports := ports }
  | releases (s : State) (releases : Vector ReleaseState 64)
      (idle : ∀ l : LeaseId, s.holdQueue l = [] → s.release l = .idle → releases[l.val] = .idle) :
      LeaseChange s { s with releases := releases }
  | retrigger (s : State) : LeaseChange s { s with engine := s.engine.retrigger }
  | timers (s : State) (timers : Vector PeriodTimer 64)
      (follows : ∀ l : LeaseId, PeriodTimer.Follows (s.lease l).k (s.timer l) timers[l.val]) :
      LeaseChange s { s with timers := timers }
  | adjust (s : State) (l : LeaseId) (r : Lease) (adjusts : (s.lease l).Adjusts r) (live : s.Live l)
      (zero : l = 0 → (s.lease 0).state = .opened → r.state = .opened) : LeaseChange s (s.setLease l r)
  | reasons (s : State) (l : LeaseId) (reasons : ReasonSet) (attention : BitVec 64)
      (others : ∀ l' : LeaseId, l' ≠ l → attention.getLsbD l'.val = s.attention.getLsbD l'.val)
      (own : s.attention.getLsbD l.val = decide ((s.lease l).reasons ≠ 0) → attention.getLsbD l.val = decide (reasons ≠ 0))
      (none : (s.lease l).notify = 0 → (s.lease l).reasons = 0 → reasons = 0) :
      LeaseChange s { s.setLease l { s.lease l with reasons := reasons } with attention := attention }
  | resize (s : State) (l : LeaseId) (p : ResizeParams) (active : (s.lease l).active = true)
      (width : p.budget ≤ 65535)
      (ranges : resizeRanges (s.lease l).cls (decide (l = 0)) p.budget p.carryLimit p.holdLimit p.watchThreshold p.reviewSpan
        p.curbLength = true)
      (fits : (s.lease l).cls = .guaranteed → (s.lease l).budget < p.budget → committedWith s l p.budget ≤ s.capacity) :
      LeaseChange s (resizeRecord l p s)
  | opening (s : State) (l : LeaseId) (c : LeaseClass) (f : Option Fence) (p : OpenParams) (other : l ≠ 0)
      (free : (s.lease l).state = .free) (width : p.budget ≤ 65535) (checked : checkOpen p = some (c, f))
      (fits : c = .guaranteed → s.committed + rateOf p.budget p.k ≤ s.capacity) : LeaseChange s (openRecord l c f p s)
  | drain (s : State) (l : LeaseId) (cause : DrainCause) (active : (s.lease l).active = true)
      (zero : l = 0 → (s.lease 0).term ≠ 0) : LeaseChange s (drainClaim l cause s)
  | rebind (s : State) (p : PortId) (t : StreamTag) (b : Option LeaseId)
      (bound : ∀ l : LeaseId, b = some l → l ≠ 0 ∧ (s.lease l).active = true) : LeaseChange s (rebindSlot p t b s)
  | capacity (s : State) (capacity : Nat) (fits : s.committed ≤ capacity) : LeaseChange s { s with capacity := capacity }

/-- Changes of the lease tables one after another. -/
abbrev LeaseChanges : State → State → Prop := Relation.ReflTransGen LeaseChange

/-! ### All changes -/

/-- An entry joins a dispatch queue, counted in outstanding of its lease (R100, R121, R123). -/
def enqueue (q : QueueName) (e : DispatchEntry) (s : State) : State :=
  { s with
    leases := s.leases.set e.lease.val { s.lease e.lease with outstanding := (s.lease e.lease).outstanding + 1 }
    gQueue := if q = .g then s.gQueue ++ [e] else s.gQueue
    sQueue := if q = .s then s.sQueue ++ [e] else s.sQueue }

/-- An entry joins a hold queue (R111). -/
def joinHeld (l : LeaseId) (e : HeldEntry) (s : State) : State :=
  { s with
    leases := s.leases.set l.val { s.lease l with heldCount := (s.lease l).heldCount + 1 }
    holdQueues := s.holdQueues.set l.val (s.holdQueue l ++ [e])
    poolFree := s.poolFree - 1 }

/-- The head of a hold queue leaves it (R113). -/
def leaveHeld (l : LeaseId) (s : State) : State :=
  { s with
    leases := s.leases.set l.val ((s.lease l).unhold 1)
    holdQueues := s.holdQueues.set l.val (s.holdQueue l).tail
    poolFree := s.poolFree + 1
    releases := s.releases.set l.val (if (s.holdQueue l).tail = [] then .idle else .running) }

/-- The engine when an entry of an origin is issued: its placed request ISSUED when the entry is its own (R146). -/
def Engine.noteIssue (e : Engine) (o : Origin) : Engine := if o.isEngine then { e with state := e.state.issuedNow } else e

/-- The head of the G queue leaves it under a tag (R125, R126). -/
def issueG (e : DispatchEntry) (t : TagId) (s : State) : State :=
  { s with
    gQueue := s.gQueue.tail
    gRun := min (s.gRun + 1) Config.gRunMax
    tags := s.tags.set t.val (.issued (issuedFields e))
    engine := s.engine.noteIssue e.origin }

/-- The head of the S queue leaves it under a tag (R125, R126). -/
def issueS (e : DispatchEntry) (t : TagId) (s : State) : State :=
  { s with
    sQueue := s.sQueue.tail
    gRun := 0
    tags := s.tags.set t.val (.issued (issuedFields e))
    engine := s.engine.noteIssue e.origin }

/-- A tag that is not ISSUED. -/
def Tag.ended : Tag → Bool
  | .issued _ => false
  | .free => true
  | .orphaned => true

/-- An ISSUED tag ends, and outstanding of its lease falls (R123, R129, R130, R133). -/
def endTag (t : TagId) (f : IssuedTag) (after : Tag) (s : State) : State := fallOutstanding f.lease (s.setTag t after)

/-- The changes that steps are made of. -/
inductive Change : State → State → Prop where
  | lease {s t : State} (h : LeaseChange s t) : Change s t
  /-- The engine alone, its request neither leaving nor entering PLACED or ISSUED. -/
  | engine (s : State) (e : Engine) (ok : s.engine.Ok → e.Ok) (placed : e.state.placed = s.engine.state.placed)
      (issued : e.state.issued = s.engine.state.issued) : Change s { s with engine := e }
  | enqueue (s : State) (q : QueueName) (e : DispatchEntry) (room : s.queueFree q = true) (live : s.Live e.lease)
      (client : e.origin.isEngine = false) : Change s (enqueue q e s)
  /-- The engine's request is placed (R102). -/
  | enqueueEngine (s : State) (e : DispatchEntry) (step : EngineStep) (stopPending : Bool) (room : s.queueFree .g = true)
      (presented : s.engine.state = .busy step .presented stopPending) (zero : e.lease = 0) (engine : e.origin = .engine) :
      Change s ((enqueue .g e s).setEngineState (.busy step .placed stopPending))
  | joinHeld (s : State) (p : PortId) (t : StreamTag) (l : LeaseId) (e : HeldEntry) (bound : s.slot p t = some l)
      (below : (s.lease l).heldCount < (s.lease l).holdLimit) (room : 0 < s.poolFree) : Change s (joinHeld l e s)
  | leaveHeld (s : State) (l : LeaseId) (held : s.holdQueue l ≠ []) (opened : (s.lease l).state = .opened) :
      Change s (leaveHeld l s)
  | issueG (s : State) (e : DispatchEntry) (rest : List DispatchEntry) (t : TagId) (head : s.gQueue = e :: rest)
      (free : s.tag t = .free) (up : s.link = .up) : Change s (issueG e t s)
  | issueS (s : State) (e : DispatchEntry) (rest : List DispatchEntry) (t : TagId) (head : s.sQueue = e :: rest)
      (free : s.tag t = .free) (up : s.link = .up) : Change s (issueS e t s)
  | endTag (s : State) (t : TagId) (f : IssuedTag) (after : Tag) (issued : s.tag t = .issued f)
      (client : f.origin.isEngine = false) (ended : after.ended = true) : Change s (endTag t f after s)
  /-- The engine's tag ends, and in the same claim its command goes on, with what it does to the lease tables, or is halted. -/
  | endEngineTag (s : State) (t : TagId) (f : IssuedTag) (after : Tag) (u : State) (e : Engine) (issued : s.tag t = .issued f)
      (engine : f.origin = .engine) (ended : after.ended = true) (taken : LeaseChanges (endTag t f after s) u)
      (ok : s.engine.Ok → e.Ok) (placed : e.state.placed = 0) (notIssued : e.state.issued = 0) :
      Change s { u with engine := e }
  /-- Tags change without a change of the lease or the origin they name. -/
  | tags (s : State) (tags : Vector Tag 32) (names : ∀ (t : TagId) (l : LeaseId), (tags[t.val]).names l = (s.tag t).names l)
      (engine : ∀ t : TagId, (tags[t.val]).isEngine = (s.tag t).isEngine)
      (free : ∀ t : TagId, s.tag t = .free → tags[t.val] = .free) : Change s { s with tags := tags }
  | removeHeld (s : State) (p : PortId) : Change s (removeHeld p s)
  | removeDispatched (s : State) (p : PortId) : Change s (removeDispatched p s)
  | link (s : State) (link : LinkState) (free : link = .down → ∀ t : TagId, s.tag t = .free) : Change s { s with link := link }
  /-- A power-on or soft reset (R183, R188). -/
  | reset (s : State) (ports : Vector Port 8) (tags : Vector Tag 32) (link : LinkState) (e : Engine)
      (ok : ∀ p : PortId, (s.port p).Ok → ports[p.val].Ok) (ended : ∀ t : TagId, (tags[t.val]).ended = true)
      (free : link = .down → LinkLaw s → ∀ t : TagId, tags[t.val] = .free) (engine : s.engine.Ok → e.Ok)
      (stopped : e.state = .stopped) :
      Change s { State.reset with ports := ports, tags := tags, link := link, engine := e }

/-- Changes one after another. -/
abbrev Changes : State → State → Prop := Relation.ReflTransGen Change

/-- A property that each change of the lease tables keeps is kept by a sequence of them. -/
theorem LeaseChanges.keep {P : State → Prop} (h : ∀ {s t : State}, LeaseChange s t → P s → P t) {s t : State}
    (c : LeaseChanges s t) (hs : P s) : P t := by
  induction c with
  | refl => exact hs
  | tail _ step ih => exact h step ih

/-- A property that each change keeps is kept by a sequence of them. -/
theorem Changes.keep {P : State → Prop} (h : ∀ {s t : State}, Change s t → P s → P t) {s t : State} (c : Changes s t)
    (hs : P s) : P t := by
  induction c with
  | refl => exact hs
  | tail _ step ih => exact h step ih

end Sys2Proof.Machine
end

section
/-!
PROOF. The laws that speak of every lease record by itself (credit, regime, period exponent), kept by every change.
-/

namespace Sys2Proof.Machine

/-! ### Parameters that pass their checks -/

/-- What the check of OPEN_LEASE's parameters passes (Table 10-3). -/
theorem checkOpen_ranges {p : OpenParams} {c : LeaseClass} {f : Option Fence} (h : checkOpen p = some (c, f)) :
    p.k ≤ 12 ∧ p.holdLimit ≤ Config.holdLimitMax ∧
      openClassRanges c p.budget p.carryLimit p.overdraw p.watchThreshold p.reviewSpan p.curbLength = true := by
  unfold checkOpen at h
  split at h
  · exact absurd h (by simp)
  · split at h
    · exact absurd h (by simp)
    · rename_i outside
      split at h
      · exact absurd h (by simp)
      · rename_i ranges
        split at h
        · exact absurd h (by simp)
        · simp only [Option.some.injEq, Prod.mk.injEq] at h
          obtain ⟨rfl, -⟩ := h
          exact ⟨by omega, by omega, by simpa using ranges⟩

/-- A RESIZE_LEASE of a lease that is not SHARED (R164, steps 2 to 4). -/
theorem Lease.resize_of_not_shared {r : Lease} (hc : r.cls ≠ .shared)
    (budget carryLimit holdLimit watchThreshold reviewSpan curbLength : Nat) :
    r.resize budget carryLimit holdLimit watchThreshold reviewSpan curbLength = { r with
      budget := budget
      carryLimit := min carryLimit budget
      credit := if r.budget < budget then satAdd32 r.credit (budget - r.budget) else r.credit
      holdLimit := holdLimit } := by
  unfold Lease.resize
  cases h : r.cls with
  | guaranteed => rfl
  | capped => rfl
  | shared => exact absurd h hc

/-- A RESIZE_LEASE of a SHARED lease (R164, steps 2 to 5). -/
theorem Lease.resize_of_shared {r : Lease} (hc : r.cls = .shared)
    (budget carryLimit holdLimit watchThreshold reviewSpan curbLength : Nat) :
    r.resize budget carryLimit holdLimit watchThreshold reviewSpan curbLength = { r with
      budget := budget
      carryLimit := min carryLimit budget
      credit := if r.budget < budget then satAdd32 r.credit (budget - r.budget) else r.credit
      holdLimit := holdLimit
      watchThreshold := watchThreshold
      reviewSpan := reviewSpan
      curbLength := curbLength
      reviewCounter := if r.regime = .watch then min r.reviewCounter reviewSpan else r.reviewCounter
      curbRemaining := if r.regime = .curb then min r.curbRemaining curbLength else r.curbRemaining } := by
  unfold Lease.resize
  rw [hc]

/-! ### Laws of one record -/

/-- A law of one record that looks at no state, count or set, and that the calculations on a record keep. -/
structure RecordLaw (P : Lease → Prop) : Prop where
  unread : ∀ (r : Lease) (state : LeaseState) (drainCause : Option DrainCause) (heldCount refusedCount outstanding : Nat)
    (reasons : ReasonSet) (boundSlots : Nat), P r → P { r with
      state := state
      drainCause := drainCause
      heldCount := heldCount
      refusedCount := refusedCount
      outstanding := outstanding
      reasons := reasons
      boundSlots := boundSlots }
  free : ∀ notify reasons : ReasonSet, P (Lease.freeRecord notify reasons)
  adjusts : ∀ r r' : Lease, r.Adjusts r' → P r → P r'
  resize : ∀ (r : Lease) (isZero : Bool) (p : ResizeParams), p.budget ≤ 65535 →
    resizeRanges r.cls isZero p.budget p.carryLimit p.holdLimit p.watchThreshold p.reviewSpan p.curbLength = true → P r →
    P (r.resize p.budget p.carryLimit p.holdLimit p.watchThreshold p.reviewSpan p.curbLength)
  opening : ∀ (r : Lease) (c : LeaseClass) (f : Option Fence) (p : OpenParams), p.budget ≤ 65535 →
    checkOpen p = some (c, f) → P (r.opening c f p)
  reset : ∀ l : LeaseId, P (State.reset.lease l)

/-- A property of every record after one record is replaced. -/
theorem forall_lease_of_set {s t : State} {l : LeaseId} {r : Lease} {P : LeaseId → Lease → Prop}
    (h : t.leases = s.leases.set l.val r) (hs : ∀ l', P l' (s.lease l')) (hr : P l r) (l' : LeaseId) : P l' (t.lease l') := by
  rw [lease_of_set s h l']
  split
  · rename_i e
    exact e ▸ hr
  · exact hs l'

/-- A figure of every record stands when the replaced record agrees with the old one in it. -/
theorem lease_proj_of_set {α : Type} (f : Lease → α) {s t : State} {l : LeaseId} {r : Lease}
    (h : t.leases = s.leases.set l.val r) (e : f r = f (s.lease l)) (l' : LeaseId) : f (t.lease l') = f (s.lease l') := by
  rw [lease_of_set s h l']
  split
  · rename_i hl
    exact hl ▸ e
  · rfl

/-- A property that falls of outstanding keep is kept by the removal of a port's dispatch entries. -/
theorem removeDispatched_keep {P : State → Prop} (fall : ∀ (l : LeaseId) (s : State), P s → P (fallOutstanding l s))
    (p : PortId) (s : State)
    (h : P { s with
      gQueue := s.gQueue.filter fun e => !e.ofPort p
      sQueue := s.sQueue.filter fun e => !e.ofPort p }) : P (removeDispatched p s) := by
  unfold removeDispatched
  dsimp only
  generalize { s with
      gQueue := s.gQueue.filter fun e => !e.ofPort p
      sQueue := s.sQueue.filter fun e => !e.ofPort p } = u at h ⊢
  induction (s.gQueue ++ s.sQueue).filter (·.ofPort p) generalizing u with
  | nil => exact h
  | cons e rest ih => exact ih _ (fall e.lease u h)

namespace RecordLaw

variable {P : Lease → Prop} (law : RecordLaw P)

include law

theorem drained (r : Lease) : P r.drained := law.free _ _

theorem fallen {r : Lease} (h : P r) : P r.fallen := by
  unfold Lease.fallen
  split
  · exact h
  · split
    · exact law.drained r
    · exact law.unread r _ _ _ _ _ _ _ h

theorem afterDrainStart {r : Lease} (h : P r) (cause : DrainCause) (held : Nat) : P (r.afterDrainStart cause held) := by
  unfold Lease.afterDrainStart
  split
  · exact law.drained _
  · exact law.unread r _ _ _ _ _ _ _ h

theorem fallOutstanding (l : LeaseId) (s : State) (h : ∀ l, P (s.lease l)) : ∀ l', P ((fallOutstanding l s).lease l') :=
  forall_lease_of_set (P := fun _ => P) (fallOutstanding_leases s l) h (law.fallen (h l))

/-- Every change of the lease tables keeps the law. -/
theorem keep_leaseChange {s t : State} (c : LeaseChange s t) (h : ∀ l, P (s.lease l)) : ∀ l, P (t.lease l) := by
  cases c with
  | adjust l r adjusts => exact forall_lease_of_set (P := fun _ => P) rfl h (law.adjusts _ _ adjusts (h l))
  | reasons l reasons => exact forall_lease_of_set (P := fun _ => P) rfl h (law.unread _ _ _ _ _ _ _ _ (h l))
  | resize l p active width ranges =>
    exact forall_lease_of_set (P := fun _ => P) rfl h (law.resize _ _ _ width ranges (h l))
  | opening l c f p other free width checked =>
    exact forall_lease_of_set (P := fun _ => P) rfl h (law.opening _ _ _ _ width checked)
  | drain l cause =>
    exact forall_lease_of_set (P := fun _ => P) rfl h (law.afterDrainStart (h l) _ _)
  | rebind p t b =>
    intro l
    simp only [State.lease, rebindSlot, getElem_tabulate]
    exact law.unread _ _ _ _ _ _ _ _ (h l)
  | _ => exact h

/-- Every change keeps the law. -/
theorem keep_change {s t : State} (c : Change s t) (h : ∀ l, P (s.lease l)) : ∀ l, P (t.lease l) := by
  cases c with
  | lease c => exact law.keep_leaseChange c h
  | enqueue q e => exact forall_lease_of_set (P := fun _ => P) rfl h (law.unread _ _ _ _ _ _ _ _ (h e.lease))
  | enqueueEngine e => exact forall_lease_of_set (P := fun _ => P) rfl h (law.unread _ _ _ _ _ _ _ _ (h e.lease))
  | joinHeld p t l => exact forall_lease_of_set (P := fun _ => P) rfl h (law.unread _ _ _ _ _ _ _ _ (h l))
  | leaveHeld l => exact forall_lease_of_set (P := fun _ => P) rfl h (law.unread _ _ _ _ _ _ _ _ (h l))
  | endTag t f after => exact law.fallOutstanding f.lease (s.setTag t after) h
  | endEngineTag t f after u e _ _ _ taken =>
    exact taken.keep (P := fun s => ∀ l, P (s.lease l)) law.keep_leaseChange
      (law.fallOutstanding f.lease (s.setTag t after) h)
  | removeHeld p =>
    intro l
    simp only [State.lease, Machine.removeHeld, getElem_tabulate]
    exact law.unread _ _ _ _ _ _ _ _ (h l)
  | removeDispatched p => exact removeDispatched_keep (P := fun s => ∀ l, P (s.lease l)) law.fallOutstanding p s h
  | reset => exact law.reset
  | _ => exact h

end RecordLaw

/-! ### Credit (R5, R6) -/

theorem Lease.creditOk_opening {r : Lease} {c : LeaseClass} {f : Option Fence} {p : OpenParams} (width : p.budget ≤ 65535)
    (checked : checkOpen p = some (c, f)) : (r.opening c f p).CreditOk := by
  obtain ⟨-, -, ranges⟩ := checkOpen_ranges checked
  refine ⟨Nat.zero_le _, width.trans (by decide), ?_, width⟩
  show p.carryLimit ≤ p.budget
  cases c with
  | guaranteed => simp [openClassRanges] at ranges; omega
  | capped => simp [openClassRanges] at ranges; omega
  | shared => simp [openClassRanges] at ranges; omega

theorem Lease.creditOk_resize {r : Lease} {p : ResizeParams} (width : p.budget ≤ 65535) (h : r.CreditOk) :
    (r.resize p.budget p.carryLimit p.holdLimit p.watchThreshold p.reviewSpan p.curbLength).CreditOk := by
  obtain ⟨hs, hc, -, -⟩ := h
  have spent : r.spent ≤ if r.budget < p.budget then satAdd32 r.credit (p.budget - r.budget) else r.credit := by
    split
    · exact hs.trans (le_satAdd32 _ hc)
    · exact hs
  have fits : (if r.budget < p.budget then satAdd32 r.credit (p.budget - r.budget) else r.credit) ≤ Config.max32 := by
    split
    · exact satAdd32_le _ _
    · exact hc
  by_cases shared : r.cls = .shared
  · rw [Lease.resize_of_shared shared]
    exact ⟨spent, fits, min_le_right _ _, width⟩
  · rw [Lease.resize_of_not_shared shared]
    exact ⟨spent, fits, min_le_right _ _, width⟩

theorem creditOk_recordLaw : RecordLaw Lease.CreditOk where
  unread _ _ _ _ _ _ _ _ h := h
  free _ _ := ⟨le_rfl, Nat.zero_le _, le_rfl, Nat.zero_le _⟩
  adjusts _ _ h := h.credit
  resize _ _ _ width _ := Lease.creditOk_resize width
  opening _ _ _ _ := Lease.creditOk_opening
  reset := creditLaw_reset

/-! ### Regime (R44) -/

theorem Lease.regimeOk_opening {r : Lease} {c : LeaseClass} {f : Option Fence} {p : OpenParams}
    (checked : checkOpen p = some (c, f)) : (r.opening c f p).RegimeOk := by
  obtain ⟨-, -, ranges⟩ := checkOpen_ranges checked
  cases c with
  | shared =>
    simp only [openClassRanges, Bool.and_eq_true, decide_eq_true_eq, Bool.not_eq_true'] at ranges
    obtain ⟨⟨⟨⟨⟨⟨carry, overdraw⟩, -⟩, span1⟩, span63⟩, curb1⟩, curb63⟩ := ranges
    exact ⟨fun _ => ⟨span1, span63, curb1, curb63, Nat.zero_le _, carry, overdraw⟩, fun _ _ => ⟨rfl, span1, le_rfl⟩,
      fun _ e => by simp [Lease.opening] at e, fun e => absurd rfl e⟩
  | guaranteed =>
    simp only [openClassRanges, Bool.and_eq_true, decide_eq_true_eq] at ranges
    obtain ⟨⟨⟨-, threshold⟩, span⟩, curb⟩ := ranges
    exact ⟨fun e => by simp [Lease.opening] at e, fun e => by simp [Lease.opening] at e, fun e => by simp [Lease.opening] at e,
      fun _ => ⟨rfl, rfl, span, rfl, threshold, span, curb⟩⟩
  | capped =>
    simp only [openClassRanges, Bool.and_eq_true, decide_eq_true_eq] at ranges
    obtain ⟨⟨⟨⟨-, -⟩, threshold⟩, span⟩, curb⟩ := ranges
    exact ⟨fun e => by simp [Lease.opening] at e, fun e => by simp [Lease.opening] at e, fun e => by simp [Lease.opening] at e,
      fun _ => ⟨rfl, rfl, span, rfl, threshold, span, curb⟩⟩

theorem Lease.regimeOk_freeRecord (notify reasons : ReasonSet) : (Lease.freeRecord notify reasons).RegimeOk :=
  have other : (Lease.freeRecord notify reasons).cls ≠ .shared := by simp [Lease.freeRecord]
  ⟨fun e => absurd e other, fun e => absurd e other, fun e => absurd e other, fun _ => ⟨rfl, rfl, rfl, rfl, rfl, rfl, rfl⟩⟩

theorem Lease.regimeOk_resize {r : Lease} {isZero : Bool} {p : ResizeParams}
    (ranges : resizeRanges r.cls isZero p.budget p.carryLimit p.holdLimit p.watchThreshold p.reviewSpan p.curbLength = true)
    (h : r.RegimeOk) :
    (r.resize p.budget p.carryLimit p.holdLimit p.watchThreshold p.reviewSpan p.curbLength).RegimeOk := by
  by_cases hc : r.cls = .shared
  · simp only [resizeRanges, hc, Bool.and_eq_true, decide_eq_true_eq] at ranges
    obtain ⟨-, ⟨⟨⟨⟨carry, -⟩, span1⟩, span63⟩, curb1⟩, curb63⟩ := ranges
    obtain ⟨-, -, -, -, accumulator, -, overdraw⟩ := h.spans hc
    rw [Lease.resize_of_shared hc]
    refine ⟨fun _ => ⟨span1, span63, curb1, curb63, accumulator, ?_, overdraw⟩, fun _ hw => ?_, fun _ hw => ?_,
      fun e => absurd hc e⟩
    · show min p.carryLimit p.budget = 0
      rw [carry, Nat.zero_min]
    · have hw' : r.regime = .watch := hw
      obtain ⟨curb, counter, -⟩ := h.watch hc hw'
      simp only [hw', if_true, reduceCtorEq, if_false]
      exact ⟨curb, le_min counter span1, min_le_right _ _⟩
    · have hw' : r.regime = .curb := hw
      obtain ⟨counter, remaining, -⟩ := h.curb hc hw'
      simp only [hw', if_true, reduceCtorEq, if_false]
      exact ⟨counter, le_min remaining curb1, min_le_right _ _⟩
  · rw [Lease.resize_of_not_shared hc]
    exact ⟨fun e => absurd e hc, fun e => absurd e hc, fun e => absurd e hc, h.other⟩

theorem regimeOk_recordLaw : RecordLaw Lease.RegimeOk where
  unread _ _ _ _ _ _ _ _ h := ⟨h.spans, h.watch, h.curb, h.other⟩
  free notify reasons := Lease.regimeOk_freeRecord notify reasons
  adjusts _ _ h := h.regime
  resize _ _ _ _ := Lease.regimeOk_resize
  opening _ _ _ _ _ := Lease.regimeOk_opening
  reset := (regimeLaw_iff _).mp regimeLaw_reset

theorem creditLaw_change {s t : State} (c : Change s t) (h : CreditLaw s) : CreditLaw t := creditOk_recordLaw.keep_change c h

theorem regimeLaw_change {s t : State} (c : Change s t) (h : RegimeLaw s) : RegimeLaw t :=
  (regimeLaw_iff t).mpr (regimeOk_recordLaw.keep_change c ((regimeLaw_iff s).mp h))

end Sys2Proof.Machine
end

section
/-!
PROOF. The laws of the ports, the engine, the dispatch queues, the link, the releases and the attention set, kept by every change.
-/

namespace Sys2Proof.Machine

/-! ### What an end of a tag and a removal of dispatch entries leave alone -/

theorem endTag_fixed (t : TagId) (f : IssuedTag) (after : Tag) (s : State) : endTag t f after s = { s with
    tags := s.tags.set t.val after
    leases := (endTag t f after s).leases
    timers := (endTag t f after s).timers
    attention := (endTag t f after s).attention
    intStatus := (endTag t f after s).intStatus } := by
  unfold endTag
  rw [fallOutstanding_eq]
  rfl

/-- A removal of dispatch entries filters the queues and lets outstanding fall, and nothing else. -/
theorem removeDispatched_fixed (p : PortId) (s : State) : removeDispatched p s = { s with
    gQueue := s.gQueue.filter fun e => !e.ofPort p
    sQueue := s.sQueue.filter fun e => !e.ofPort p
    leases := (removeDispatched p s).leases
    timers := (removeDispatched p s).timers
    attention := (removeDispatched p s).attention
    intStatus := (removeDispatched p s).intStatus } := by
  refine removeDispatched_keep (P := fun u => u = { s with
    gQueue := s.gQueue.filter fun e => !e.ofPort p
    sQueue := s.sQueue.filter fun e => !e.ofPort p
    leases := u.leases
    timers := u.timers
    attention := u.attention
    intStatus := u.intStatus }) (fun l u hu => ?_) p s rfl
  rw [fallOutstanding_eq, hu]

/-! ### Ports (R67, R69 to R71) -/

theorem portLaw_leaseChange {s t : State} (c : LeaseChange s t) (h : PortLaw s) : PortLaw t := by
  cases c with
  | ports v ok => exact fun p => ok p (h p)
  | _ => exact h

theorem portLaw_change {s t : State} (c : Change s t) (h : PortLaw s) : PortLaw t := by
  cases c with
  | lease c => exact portLaw_leaseChange c h
  | endTag t f after =>
    rw [endTag_fixed]
    exact h
  | endEngineTag t f after u e _ _ _ taken =>
    refine taken.keep (P := fun s => PortLaw s) portLaw_leaseChange ?_
    rw [endTag_fixed]
    exact h
  | removeDispatched =>
    rw [removeDispatched_fixed]
    exact h
  | reset v tags link e ok => exact fun p => ok p (h p)
  | _ => exact h

/-! ### The engine (R141 to R143) -/

theorem Engine.ok_noteIssue {e : Engine} (h : e.Ok) (o : Origin) : (e.noteIssue o).Ok := by
  unfold Engine.noteIssue
  split
  · obtain ⟨state, base, size, submit, fetch, complete, fault, mode⟩ := e
    rcases state with _ | _ | ⟨step, phase, stopPending⟩ | _
    · exact h
    · exact h
    · cases phase with
      | placed => cases step <;> exact h
      | presented => exact h
      | waiting => exact h
      | issued => exact h
    · exact h
  · exact h

theorem engineLaw_leaseChange {s t : State} (c : LeaseChange s t) (h : s.engine.Ok) : t.engine.Ok := by
  cases c with
  | retrigger => exact Engine.ok_retrigger h
  | _ => exact h

theorem engineLaw_change {s t : State} (c : Change s t) (h : s.engine.Ok) : t.engine.Ok := by
  cases c with
  | lease c => exact engineLaw_leaseChange c h
  | engine e ok => exact ok h
  | enqueueEngine e step stopPending _ presented =>
    unfold Engine.Ok at h
    rw [presented] at h
    cases step <;> exact h
  | issueG e => exact Engine.ok_noteIssue h e.origin
  | issueS e => exact Engine.ok_noteIssue h e.origin
  | endTag t f after =>
    rw [endTag_fixed]
    exact h
  | endEngineTag t f after u e _ _ _ _ ok => exact ok h
  | removeDispatched =>
    rw [removeDispatched_fixed]
    exact h
  | reset ports tags link e _ _ _ ok => exact ok h
  | _ => exact h

/-! ### The dispatcher's tables -/

/-- A change of the lease tables leaves the dispatch queues, the tags and the link. -/
theorem dispatcher_leaseChange {s t : State} (c : LeaseChange s t) :
    t.gQueue = s.gQueue ∧ t.sQueue = s.sQueue ∧ t.gRun = s.gRun ∧ t.tags = s.tags ∧ t.link = s.link := by
  cases c <;> exact ⟨rfl, rfl, rfl, rfl, rfl⟩

theorem dispatcher_leaseChanges {s t : State} (c : LeaseChanges s t) :
    t.gQueue = s.gQueue ∧ t.sQueue = s.sQueue ∧ t.gRun = s.gRun ∧ t.tags = s.tags ∧ t.link = s.link := by
  refine c.keep (P := fun t => t.gQueue = s.gQueue ∧ t.sQueue = s.sQueue ∧ t.gRun = s.gRun ∧ t.tags = s.tags ∧
    t.link = s.link) (fun step h => ?_) ⟨rfl, rfl, rfl, rfl, rfl⟩
  obtain ⟨g, q, r, v, k⟩ := dispatcher_leaseChange step
  obtain ⟨g', q', r', v', k'⟩ := h
  exact ⟨g.trans g', q.trans q', r.trans r', v.trans v', k.trans k'⟩

/-- The end of the engine's tag, with what its command does to the lease tables: the tag alone changes. -/
theorem dispatcher_endTag {s u : State} {t : TagId} {f : IssuedTag} {after : Tag} (c : LeaseChanges (endTag t f after s) u) :
    u.gQueue = s.gQueue ∧ u.sQueue = s.sQueue ∧ u.gRun = s.gRun ∧ u.tags = s.tags.set t.val after ∧ u.link = s.link := by
  obtain ⟨g, q, r, v, k⟩ := dispatcher_leaseChanges c
  rw [endTag_fixed] at g q r v k
  exact ⟨g, q, r, v, k⟩

/-! ### Dispatch queues (R121, R125) -/

theorem queueFree_iff (s : State) (q : QueueName) : s.queueFree q = true ↔ (s.queue q).length < 16 := by
  unfold State.queueFree Config.queueDepth
  exact decide_eq_true_iff

theorem length_enqueue_g (e : DispatchEntry) (s : State) : (enqueue .g e s).gQueue.length = s.gQueue.length + 1 := by
  simp [enqueue]

theorem length_enqueue_s (e : DispatchEntry) (s : State) : (enqueue .s e s).sQueue.length = s.sQueue.length + 1 := by
  simp [enqueue]

theorem queueLaw_change {s t : State} (c : Change s t) (h : QueueLaw s) : QueueLaw t := by
  obtain ⟨hg, hs, hr⟩ := h
  cases c with
  | lease c =>
    obtain ⟨g, q, r, -, -⟩ := dispatcher_leaseChange c
    unfold QueueLaw
    rw [g, q, r]
    exact ⟨hg, hs, hr⟩
  | enqueue q e room =>
    have below := (queueFree_iff s q).mp room
    cases q with
    | g => exact ⟨(length_enqueue_g e s).trans_le below, hs, hr⟩
    | s => exact ⟨hg, (length_enqueue_s e s).trans_le below, hr⟩
  | enqueueEngine e step stopPending room =>
    exact ⟨(length_enqueue_g e s).trans_le ((queueFree_iff s .g).mp room), hs, hr⟩
  | issueG e rest t head =>
    refine ⟨?_, hs, min_le_right _ _⟩
    show s.gQueue.tail.length ≤ 16
    rw [List.length_tail]
    omega
  | issueS e rest t head =>
    refine ⟨hg, ?_, Nat.zero_le _⟩
    show s.sQueue.tail.length ≤ 16
    rw [List.length_tail]
    omega
  | endTag t f after =>
    rw [endTag_fixed]
    exact ⟨hg, hs, hr⟩
  | endEngineTag t f after u e _ _ _ taken =>
    obtain ⟨g, q, r, -, -⟩ := dispatcher_endTag taken
    show u.gQueue.length ≤ 16 ∧ u.sQueue.length ≤ 16 ∧ u.gRun ≤ 8
    rw [g, q, r]
    exact ⟨hg, hs, hr⟩
  | removeDispatched p =>
    rw [removeDispatched_fixed]
    exact ⟨(List.length_filter_le _ _).trans hg, (List.length_filter_le _ _).trans hs, hr⟩
  | reset => exact queueLaw_reset
  | _ => exact ⟨hg, hs, hr⟩

/-! ### The link (R128, R137) -/

/-- While the link is LINK_DOWN no tag is ISSUED. -/
theorem LinkLaw.not_issued {s : State} (h : LinkLaw s) {t : TagId} {f : IssuedTag} (issued : s.tag t = .issued f) :
    s.link ≠ .down := fun down => by simp [h down t] at issued

theorem linkLaw_change {s t : State} (c : Change s t) (h : LinkLaw s) : LinkLaw t := by
  cases c with
  | lease c =>
    obtain ⟨-, -, -, v, k⟩ := dispatcher_leaseChange c
    unfold LinkLaw State.tag
    rw [v, k]
    exact h
  | issueG e rest t _ _ up => exact fun down => absurd (up.symm.trans down) (by decide)
  | issueS e rest t _ _ up => exact fun down => absurd (up.symm.trans down) (by decide)
  | endTag t f after issued =>
    rw [endTag_fixed]
    exact fun down => absurd down (h.not_issued issued)
  | endEngineTag t f after u e issued _ _ taken =>
    obtain ⟨-, -, -, -, k⟩ := dispatcher_endTag taken
    exact fun down => absurd (k.symm.trans down) (h.not_issued issued)
  | tags v _ _ free => exact fun down t => free t (h down t)
  | removeDispatched =>
    rw [removeDispatched_fixed]
    exact h
  | link k free => exact free
  | reset _ v k e _ _ free => exact fun down => free down h
  | _ => exact h

/-! ### Releases (R112, R113) -/

theorem holdQueue_of_set {s t : State} {l : LeaseId} {q : List HeldEntry} (h : t.holdQueues = s.holdQueues.set l.val q)
    (l' : LeaseId) : t.holdQueue l' = if l = l' then q else s.holdQueue l' := by
  simp only [State.holdQueue, h, Vector.getElem_set, Fin.ext_iff]

theorem release_of_set {s t : State} {l : LeaseId} {r : ReleaseState} (h : t.releases = s.releases.set l.val r)
    (l' : LeaseId) : t.release l' = if l = l' then r else s.release l' := by
  simp only [State.release, h, Vector.getElem_set, Fin.ext_iff]

theorem releaseLaw_leaseChange {s t : State} (c : LeaseChange s t) (h : ReleaseLaw s) : ReleaseLaw t := by
  cases c with
  | releases v idle => exact fun l hr hq => hr (idle l hq (not_not.mp fun e => h l e hq))
  | drain l cause =>
    intro l' hr hq
    rw [release_of_set (l := l) rfl] at hr
    rw [holdQueue_of_set (l := l) rfl] at hq
    split at hr
    · exact hr rfl
    · rw [if_neg ‹_›] at hq
      exact h l' hr hq
  | _ => exact h

theorem holdQueue_removeHeld (s : State) (p : PortId) (l : LeaseId) :
    (removeHeld p s).holdQueue l = (s.holdQueue l).filter fun e => decide (e.port ≠ p) := by
  simp only [State.holdQueue, removeHeld, getElem_tabulate]

theorem release_removeHeld (s : State) (p : PortId) (l : LeaseId) :
    (removeHeld p s).release l =
      if (s.holdQueue l).length - ((removeHeld p s).holdQueue l).length ≠ 0 ∧ (removeHeld p s).holdQueue l = [] then .idle
      else s.release l := by
  rw [holdQueue_removeHeld]
  simp only [State.release, removeHeld, getElem_tabulate]

theorem releaseLaw_change {s t : State} (c : Change s t) (h : ReleaseLaw s) : ReleaseLaw t := by
  cases c with
  | lease c => exact releaseLaw_leaseChange c h
  | joinHeld p t l e =>
    intro l' hr hq
    rw [holdQueue_of_set (l := l) rfl] at hq
    split at hq
    · simp at hq
    · exact h l' hr hq
  | leaveHeld l held =>
    intro l' hr hq
    rw [holdQueue_of_set (l := l) rfl] at hq
    rw [release_of_set (l := l) rfl] at hr
    split at hr
    · rw [if_pos ‹_›] at hq
      exact hr (if_pos hq)
    · rw [if_neg ‹_›] at hq
      exact h l' hr hq
  | endTag =>
    rw [endTag_fixed]
    exact h
  | endEngineTag t f after u e _ _ _ taken =>
    refine taken.keep (P := fun s => ReleaseLaw s) releaseLaw_leaseChange ?_
    rw [endTag_fixed]
    exact h
  | removeHeld p =>
    intro l hr hq
    rw [release_removeHeld, hq] at hr
    split at hr
    · exact hr rfl
    · rename_i kept
      have : (s.holdQueue l).length = 0 := by simpa using kept
      exact h l hr (List.length_eq_zero_iff.mp this)
  | removeDispatched =>
    rw [removeDispatched_fixed]
    exact h
  | reset => exact releaseLaw_reset
  | _ => exact h

end Sys2Proof.Machine
end

section
/-!
PROOF. Counting in tables; the attention law and the laws of the stream map, kept by every change.
-/

namespace Sys2Proof.Machine

/-! ### Counting in tables -/

theorem toList_eq_map {α : Type} {n : Nat} (v : Vector α n) : v.toList = (List.finRange n).map fun i => v[i.val] := by
  apply List.ext_getElem
  · simp
  · intro i h h'
    simp

/-- Tables that agree place by place in what is counted hold as many. -/
theorem countP_toList_congr {α β : Type} {n : Nat} {v : Vector α n} {w : Vector β n} {p : α → Bool} {q : β → Bool}
    (h : ∀ i : Fin n, p v[i.val] = q w[i.val]) : v.toList.countP p = w.toList.countP q := by
  rw [toList_eq_map, toList_eq_map, List.countP_map, List.countP_map]
  congr 1
  exact funext h

/-- Writing one place of a table moves a count by what stood there and what stands there now. -/
theorem countP_toList_set {α : Type} {n : Nat} (v : Vector α n) (i : Fin n) (x : α) (p : α → Bool) :
    (v.set i.val x).toList.countP p + (if p v[i.val] then 1 else 0) = v.toList.countP p + (if p x then 1 else 0) := by
  have hi : i.val < v.toList.length := by simp
  rw [Vector.toList_set, List.countP_set hi]
  have pos : (if p v.toList[i.val] = true then 1 else 0) ≤ v.toList.countP p := by
    split
    · exact List.countP_pos_iff.mpr ⟨_, List.getElem_mem hi, ‹_›⟩
    · exact Nat.zero_le _
  simp only [Vector.getElem_toList] at pos ⊢
  omega

/-- Something stands in a table that counts a place. -/
theorem countP_toList_pos {α : Type} {n : Nat} (v : Vector α n) (i : Fin n) {p : α → Bool} (h : p v[i.val] = true) :
    0 < v.toList.countP p :=
  List.countP_pos_iff.mpr ⟨_, by simp, h⟩

/-- Nothing stands in a table that counts no place. -/
theorem countP_toList_eq_zero {α : Type} {n : Nat} (v : Vector α n) {p : α → Bool} (h : ∀ i : Fin n, p v[i.val] = false) :
    v.toList.countP p = 0 := by
  rw [List.countP_eq_zero, toList_eq_map]
  simp [h]

/-- A sum over the leases when one lease's figure changes. -/
theorem sum_leases_update {f g : LeaseId → Nat} {l : LeaseId} (h : ∀ l', l' ≠ l → g l' = f l') :
    ((List.finRange 64).map g).sum + f l = ((List.finRange 64).map f).sum + g l := by
  rw [← Fin.sum_univ_def, ← Fin.sum_univ_def, ← Finset.add_sum_erase _ f (Finset.mem_univ l),
    ← Finset.add_sum_erase _ g (Finset.mem_univ l)]
  have : ∑ x ∈ Finset.univ.erase l, g x = ∑ x ∈ Finset.univ.erase l, f x :=
    Finset.sum_congr rfl fun x hx => h x (Finset.ne_of_mem_erase hx)
  omega

/-! ### The attention set (R178) -/

theorem attentionLaw_of_reasons {s t : State} (h : AttentionLaw s) (hr : ∀ l, (t.lease l).reasons = (s.lease l).reasons)
    (ha : t.attention = s.attention) : AttentionLaw t := by
  intro l
  rw [ha, hr]
  exact h l

/-- A lease whose reasons grow joins the attention set as `attentionAfter` says. -/
theorem attentionLaw_of_after {s t : State} {l : LeaseId} {r : Lease} (h : AttentionLaw s)
    (hl : t.leases = s.leases.set l.val r) (ha : t.attention = s.attentionAfter l r.reasons)
    (grow : r.reasons = 0 → (s.lease l).reasons = 0) : AttentionLaw t := by
  intro l'
  rw [ha, lease_of_set s hl l']
  by_cases e : l = l'
  · subst e
    rw [if_pos rfl, attentionAfter_self, h l]
    by_cases h0 : (s.lease l).reasons = 0 <;> by_cases h1 : r.reasons = 0 <;> simp_all
  · rw [if_neg e, attentionAfter_ne _ e]
    exact h l'

theorem Lease.reasons_eq_zero_of_fallen {r : Lease} (h : r.fallen.reasons = 0) : r.reasons = 0 := by
  unfold Lease.fallen at h
  split at h
  · exact h
  · split at h
    · exact Lease.reasons_eq_zero_of_drained h
    · exact h

theorem Lease.reasons_eq_zero_of_afterDrainStart {r : Lease} {cause : DrainCause} {held : Nat}
    (h : (r.afterDrainStart cause held).reasons = 0) : r.reasons = 0 := by
  unfold Lease.afterDrainStart at h
  split at h
  · exact Lease.reasons_eq_zero_of_draining (Lease.reasons_eq_zero_of_drained h)
  · exact Lease.reasons_eq_zero_of_draining h

theorem attentionLaw_fall (l : LeaseId) (s : State) (h : AttentionLaw s) : AttentionLaw (fallOutstanding l s) := by
  rw [fallOutstanding_eq]
  exact attentionLaw_of_after h (l := l) rfl rfl Lease.reasons_eq_zero_of_fallen

/-- A RESIZE_LEASE changes the terms of the record alone. -/
theorem Lease.resize_unread (r : Lease) (budget carryLimit holdLimit watchThreshold reviewSpan curbLength : Nat) :
    let r' := r.resize budget carryLimit holdLimit watchThreshold reviewSpan curbLength
    r'.state = r.state ∧ r'.reasons = r.reasons ∧ r'.boundSlots = r.boundSlots ∧ r'.heldCount = r.heldCount ∧
      r'.outstanding = r.outstanding ∧ r'.cls = r.cls ∧ r'.k = r.k ∧ r'.budget = budget ∧ r'.holdLimit = holdLimit ∧
      r'.drainCause = r.drainCause ∧ r'.term = r.term ∧ r'.overdrawPermitted = r.overdrawPermitted ∧ r'.fence = r.fence ∧
      r'.notify = r.notify := by
  dsimp only
  by_cases shared : r.cls = .shared
  · rw [Lease.resize_of_shared shared]
    simp
  · rw [Lease.resize_of_not_shared shared]
    simp

theorem attentionLaw_leaseChange {s t : State} (c : LeaseChange s t) (h : AttentionLaw s) : AttentionLaw t := by
  cases c with
  | adjust l r adjusts => exact attentionLaw_of_reasons h (lease_proj_of_set Lease.reasons rfl adjusts.reasons) rfl
  | reasons l reasons attention others own =>
    intro l'
    rw [lease_of_set s (l := l) rfl l']
    by_cases e : l = l'
    · subst e
      rw [if_pos rfl]
      exact own (h l)
    · rw [if_neg e]
      exact (others l' (Ne.symm e)).trans (h l')
  | resize l p =>
    obtain ⟨-, reasons, -⟩ := (s.lease l).resize_unread p.budget p.carryLimit p.holdLimit p.watchThreshold p.reviewSpan p.curbLength
    exact attentionLaw_of_reasons h (lease_proj_of_set Lease.reasons rfl reasons) rfl
  | opening l => exact attentionLaw_of_reasons h (lease_proj_of_set (l := l) Lease.reasons rfl rfl) rfl
  | drain l => exact attentionLaw_of_after h (l := l) rfl rfl Lease.reasons_eq_zero_of_afterDrainStart
  | rebind p t b =>
    refine attentionLaw_of_reasons h (fun l => ?_) rfl
    simp only [State.lease, rebindSlot, getElem_tabulate]
  | _ => exact h

theorem attentionLaw_change {s t : State} (c : Change s t) (h : AttentionLaw s) : AttentionLaw t := by
  cases c with
  | lease c => exact attentionLaw_leaseChange c h
  | enqueue q e => exact attentionLaw_of_reasons h (lease_proj_of_set (l := e.lease) Lease.reasons rfl rfl) rfl
  | enqueueEngine e => exact attentionLaw_of_reasons h (lease_proj_of_set (l := e.lease) Lease.reasons rfl rfl) rfl
  | joinHeld p t l => exact attentionLaw_of_reasons h (lease_proj_of_set (l := l) Lease.reasons rfl rfl) rfl
  | leaveHeld l => exact attentionLaw_of_reasons h (lease_proj_of_set (l := l) Lease.reasons rfl rfl) rfl
  | endTag t f after => exact attentionLaw_fall f.lease (s.setTag t after) h
  | endEngineTag t f after u e _ _ _ taken =>
    exact taken.keep (P := fun s => AttentionLaw s) attentionLaw_leaseChange (attentionLaw_fall f.lease (s.setTag t after) h)
  | removeHeld p =>
    refine attentionLaw_of_reasons h (fun l => ?_) rfl
    simp only [State.lease, removeHeld, getElem_tabulate, Lease.unhold]
  | removeDispatched p => exact removeDispatched_keep (P := fun s => AttentionLaw s) attentionLaw_fall p s h
  | reset => exact attentionLaw_reset
  | _ => exact h

/-! ### The stream map (R83, R9) -/

theorem slot_of_set {s t : State} {p : PortId} {u : StreamTag} {b : Option LeaseId}
    (h : t.streams = s.streams.set (slotIndex p u).val b) (p' : PortId) (u' : StreamTag) :
    t.slot p' u' = if p = p' ∧ u = u' then b else s.slot p' u' := by
  simp only [State.slot, h, Vector.getElem_set, ← Fin.ext_iff, slotIndex_injective]

theorem slot_congr {s t : State} (h : t.streams = s.streams) (p : PortId) (u : StreamTag) : t.slot p u = s.slot p u := by
  simp only [State.slot, h]

/-- While the map stands, the stream law stands when no OPEN or SUSPENDED lease leaves the two states. -/
theorem streamLaw_of_active {s t : State} (h : StreamLaw s) (hs : t.streams = s.streams)
    (active : ∀ l, (s.lease l).active = true → (t.lease l).active = true) : StreamLaw t := by
  intro p u l hl
  rw [slot_congr hs] at hl
  obtain ⟨zero, was⟩ := h p u l hl
  exact ⟨zero, active l was⟩

theorem Lease.active_fallen {r : Lease} (h : r.active = true) : r.fallen.active = true := by
  unfold Lease.fallen
  split
  · exact h
  · split
    · rename_i draining
      simp [Lease.active, draining.1] at h
    · exact h

/-- An OPEN or SUSPENDED lease is one of the two after a record is replaced by one with the same standing. -/
theorem active_of_set {s t : State} {l : LeaseId} {r : Lease} (hl : t.leases = s.leases.set l.val r)
    (hr : (s.lease l).active = true → r.active = true) (l' : LeaseId) (h : (s.lease l').active = true) :
    (t.lease l').active = true :=
  forall_lease_of_set (P := fun l r => (s.lease l).active = true → r.active = true) hl (fun _ h => h) hr l' h

theorem active_congr {r r' : Lease} (h : r'.state = r.state) : r'.active = r.active := by
  unfold Lease.active
  rw [h]

theorem streamLaw_fall (l : LeaseId) (s : State) (h : StreamLaw s) : StreamLaw (fallOutstanding l s) :=
  streamLaw_of_active h (fallOutstanding_streams s l) (active_of_set (fallOutstanding_leases s l) Lease.active_fallen)

theorem lease_rebindSlot (s : State) (p : PortId) (t : StreamTag) (b : Option LeaseId) (l : LeaseId) :
    (rebindSlot p t b s).lease l = { s.lease l with
      boundSlots := (s.lease l).boundSlots - (if s.slot p t = some l then 1 else 0) + (if b = some l then 1 else 0) } := by
  simp only [State.lease, rebindSlot, getElem_tabulate]

theorem lease_removeHeld (s : State) (p : PortId) (l : LeaseId) :
    (removeHeld p s).lease l =
      (s.lease l).unhold ((s.holdQueue l).length - ((s.holdQueue l).filter fun e => decide (e.port ≠ p)).length) := by
  simp only [State.lease, removeHeld, getElem_tabulate]

theorem streamLaw_leaseChange {s t : State} (c : LeaseChange s t) (h : StreamLaw s) : StreamLaw t := by
  cases c with
  | adjust l r adjusts => exact streamLaw_of_active h rfl (active_of_set rfl fun ha => adjusts.active.trans ha)
  | reasons l => exact streamLaw_of_active h rfl (active_of_set (l := l) rfl fun ha => ha)
  | resize l p =>
    obtain ⟨state, -⟩ := (s.lease l).resize_unread p.budget p.carryLimit p.holdLimit p.watchThreshold p.reviewSpan p.curbLength
    exact streamLaw_of_active h rfl (active_of_set rfl fun ha => (active_congr state).trans ha)
  | opening l => exact streamLaw_of_active h rfl (active_of_set (l := l) rfl fun _ => rfl)
  | drain l cause =>
    intro p u l' hl
    rw [slot_drainClaim] at hl
    split at hl
    · exact absurd hl (by simp)
    · obtain ⟨zero, was⟩ := h p u l' hl
      have other : l ≠ l' := fun e => ‹¬ s.slot p u = some l› (e ▸ hl)
      refine ⟨zero, ?_⟩
      rw [lease_of_set s (l := l) rfl l', if_neg other]
      exact was
  | rebind p u b bound =>
    intro p' u' l hl
    rw [lease_rebindSlot]
    rw [slot_of_set (s := s) rfl] at hl
    split at hl
    · exact bound l hl
    · exact h p' u' l hl
  | _ => exact h

theorem streamLaw_change {s t : State} (c : Change s t) (h : StreamLaw s) : StreamLaw t := by
  cases c with
  | lease c => exact streamLaw_leaseChange c h
  | enqueue q e => exact streamLaw_of_active h rfl (active_of_set (l := e.lease) rfl fun ha => ha)
  | enqueueEngine e => exact streamLaw_of_active h rfl (active_of_set (l := e.lease) rfl fun ha => ha)
  | joinHeld p t l => exact streamLaw_of_active h rfl (active_of_set (l := l) rfl fun ha => ha)
  | leaveHeld l => exact streamLaw_of_active h rfl (active_of_set (l := l) rfl fun ha => ha)
  | endTag t f after => exact streamLaw_fall f.lease (s.setTag t after) h
  | endEngineTag t f after u e _ _ _ taken =>
    exact taken.keep (P := fun s => StreamLaw s) streamLaw_leaseChange (streamLaw_fall f.lease (s.setTag t after) h)
  | removeHeld p => exact streamLaw_of_active h rfl (fun l ha => by
    rw [lease_removeHeld]
    exact ha)
  | removeDispatched p => exact removeDispatched_keep (P := fun s => StreamLaw s) streamLaw_fall p s h
  | reset => exact streamLaw_reset
  | _ => exact h

/-- The stream map's two laws together. -/
def StreamMapLaw (s : State) : Prop := StreamLaw s ∧ BoundSlotLaw s

/-- No slot names a lease that is neither OPEN nor SUSPENDED. -/
theorem StreamMapLaw.unbound {s : State} (h : StreamMapLaw s) {l : LeaseId} (inactive : (s.lease l).active = false) :
    (s.lease l).boundSlots = 0 := by
  rw [h.2 l, List.count_eq_zero]
  intro named
  obtain ⟨p, u, hl⟩ := (streams_contains_iff s (some l)).mp (List.contains_iff_mem.mpr named)
  exact absurd (h.1 p u l hl).2 (by simp [inactive])

theorem boundSlotLaw_of_boundSlots {s t : State} (h : BoundSlotLaw s) (hs : t.streams = s.streams)
    (hb : ∀ l, (t.lease l).boundSlots = (s.lease l).boundSlots) : BoundSlotLaw t := by
  intro l
  rw [hb, hs]
  exact h l

theorem streamMapLaw_fall (l : LeaseId) (s : State) (h : StreamMapLaw s) : StreamMapLaw (fallOutstanding l s) := by
  refine ⟨streamLaw_fall l s h.1, boundSlotLaw_of_boundSlots h.2 (fallOutstanding_streams s l)
    (lease_proj_of_set Lease.boundSlots (fallOutstanding_leases s l) ?_)⟩
  unfold Lease.fallen
  split
  · rfl
  · split
    · rename_i draining
      exact (h.unbound (by simp [Lease.active, draining.1])).symm
    · rfl

theorem Lease.boundSlots_afterDrainStart (r : Lease) (cause : DrainCause) (held : Nat) :
    (r.afterDrainStart cause held).boundSlots = 0 := by
  unfold Lease.afterDrainStart
  split <;> rfl

theorem boundSlotLaw_drainClaim (l : LeaseId) (cause : DrainCause) (s : State) (h : BoundSlotLaw s) :
    BoundSlotLaw (drainClaim l cause s) := by
  intro l'
  rw [lease_of_set s (l := l) rfl l']
  by_cases e : l = l'
  · subst e
    rw [if_pos rfl, Lease.boundSlots_afterDrainStart]
    refine (countP_toList_eq_zero _ fun i => ?_).symm
    simp only [drainClaim, getElem_tabulate]
    split
    · rfl
    · simpa using ‹_›
  · rw [if_neg e, h l']
    refine countP_toList_congr fun i => ?_
    simp only [drainClaim, getElem_tabulate]
    split
    · rename_i named
      have named' : s.streams[i.val] = some l := named
      rw [named']
      simp [e]
    · rfl

theorem boundSlotLaw_rebindSlot (p : PortId) (u : StreamTag) (b : Option LeaseId) (s : State) (h : BoundSlotLaw s) :
    BoundSlotLaw (rebindSlot p u b s) := by
  intro l
  have moved := countP_toList_set s.streams (slotIndex p u) b (· == some l)
  have was := h l
  simp only [List.count] at was
  have pos : s.slot p u = some l → 0 < s.streams.toList.countP (· == some l) := fun named =>
    countP_toList_pos s.streams (slotIndex p u) (by simpa [State.slot] using named)
  rw [lease_rebindSlot]
  simp only [List.count, rebindSlot, was, State.slot, beq_iff_eq] at moved pos ⊢
  by_cases named : s.streams[(slotIndex p u).val] = some l
  · have := pos named
    simp only [named, if_true] at moved ⊢
    omega
  · simp only [named, if_false] at moved ⊢
    omega

theorem streamMapLaw_leaseChange {s t : State} (c : LeaseChange s t) (h : StreamMapLaw s) : StreamMapLaw t := by
  refine ⟨streamLaw_leaseChange c h.1, ?_⟩
  obtain ⟨-, h⟩ := h
  cases c with
  | adjust l r adjusts => exact boundSlotLaw_of_boundSlots h rfl (lease_proj_of_set Lease.boundSlots rfl adjusts.boundSlots)
  | reasons l => exact boundSlotLaw_of_boundSlots h rfl (lease_proj_of_set (l := l) Lease.boundSlots rfl rfl)
  | resize l p =>
    obtain ⟨-, -, bound, -⟩ :=
      (s.lease l).resize_unread p.budget p.carryLimit p.holdLimit p.watchThreshold p.reviewSpan p.curbLength
    exact boundSlotLaw_of_boundSlots h rfl (lease_proj_of_set Lease.boundSlots rfl bound)
  | opening l => exact boundSlotLaw_of_boundSlots h rfl (lease_proj_of_set (l := l) Lease.boundSlots rfl rfl)
  | drain l cause => exact boundSlotLaw_drainClaim l cause s h
  | rebind p u b => exact boundSlotLaw_rebindSlot p u b s h
  | _ => exact h

theorem streamMapLaw_change {s t : State} (c : Change s t) (h : StreamMapLaw s) : StreamMapLaw t := by
  cases c with
  | lease c => exact streamMapLaw_leaseChange c h
  | endTag t f after => exact streamMapLaw_fall f.lease (s.setTag t after) h
  | endEngineTag t f after u e _ _ _ taken =>
    exact taken.keep (P := StreamMapLaw) streamMapLaw_leaseChange (streamMapLaw_fall f.lease (s.setTag t after) h)
  | removeDispatched p => exact removeDispatched_keep (P := StreamMapLaw) streamMapLaw_fall p s h
  | enqueue q e room live client =>
    exact ⟨streamLaw_change (.enqueue s q e room live client) h.1,
      boundSlotLaw_of_boundSlots h.2 rfl (lease_proj_of_set (l := e.lease) Lease.boundSlots rfl rfl)⟩
  | enqueueEngine e step sp room presented zero engine =>
    exact ⟨streamLaw_change (.enqueueEngine s e step sp room presented zero engine) h.1,
      boundSlotLaw_of_boundSlots h.2 rfl (lease_proj_of_set (l := e.lease) Lease.boundSlots rfl rfl)⟩
  | joinHeld p t l e bound below room =>
    exact ⟨streamLaw_change (.joinHeld s p t l e bound below room) h.1,
      boundSlotLaw_of_boundSlots h.2 rfl (lease_proj_of_set (l := l) Lease.boundSlots rfl rfl)⟩
  | leaveHeld l held opened =>
    exact ⟨streamLaw_change (.leaveHeld s l held opened) h.1,
      boundSlotLaw_of_boundSlots h.2 rfl (lease_proj_of_set (l := l) Lease.boundSlots rfl rfl)⟩
  | removeHeld p =>
    exact ⟨streamLaw_change (.removeHeld s p) h.1,
      boundSlotLaw_of_boundSlots h.2 rfl (fun l => by
        rw [lease_removeHeld]
        rfl)⟩
  | reset => exact ⟨streamLaw_reset, boundSlotLaw_reset⟩
  | _ => exact h

end Sys2Proof.Machine
end

section
/-!
PROOF. The laws of the hold queues, the committed sum, outstanding and the engine's request, kept by every change.
-/

namespace Sys2Proof.Machine

/-! ### Hold queues (R107, R109, R110) -/

/-- The hold law of one record and its hold queue. -/
def Lease.HoldOk (r : Lease) (q : List HeldEntry) : Prop :=
  r.heldCount = q.length ∧ r.heldCount ≤ 32 ∧ r.holdLimit ≤ 32 ∧ (r.active = false → q = [])

theorem holdLaw_of_records {s t : State} (h : HoldLaw s) (hq : t.holdQueues = s.holdQueues) (hp : t.poolFree = s.poolFree)
    (hr : ∀ l, (s.lease l).HoldOk (s.holdQueue l) → (t.lease l).HoldOk (s.holdQueue l)) : HoldLaw t := by
  have hq' : t.holdQueue = s.holdQueue := funext fun l => by simp only [State.holdQueue, hq]
  unfold HoldLaw
  rw [hq', hp]
  exact ⟨fun l => hr l (h.1 l), h.2⟩

/-- A record and its hold queue change, and the pool with them. -/
theorem holdLaw_of_queue {s t : State} {l : LeaseId} {r : Lease} {q : List HeldEntry} (h : HoldLaw s)
    (hl : t.leases = s.leases.set l.val r) (hq : t.holdQueues = s.holdQueues.set l.val q) (ok : r.HoldOk q)
    (pool : t.poolFree + q.length = s.poolFree + (s.holdQueue l).length) : HoldLaw t := by
  obtain ⟨each, slots⟩ := h
  refine ⟨fun l' => ?_, ?_⟩
  · rw [lease_of_set s hl, holdQueue_of_set hq]
    split
    · exact ok
    · exact each l'
  · have moved := sum_leases_update (l := l) (f := fun l => (s.holdQueue l).length) (g := fun l => (t.holdQueue l).length)
      fun l' other => by rw [holdQueue_of_set hq, if_neg (Ne.symm other)]
    have own : (t.holdQueue l).length = q.length := by rw [holdQueue_of_set hq, if_pos rfl]
    omega

/-- Replacing one record by one with the same held figures keeps the hold law. -/
theorem holdLaw_of_set {s t : State} {l : LeaseId} {r : Lease} (h : HoldLaw s) (hl : t.leases = s.leases.set l.val r)
    (hq : t.holdQueues = s.holdQueues) (hp : t.poolFree = s.poolFree)
    (hr : (s.lease l).HoldOk (s.holdQueue l) → r.HoldOk (s.holdQueue l)) : HoldLaw t :=
  holdLaw_of_records h hq hp fun l' =>
    forall_lease_of_set (P := fun l r => (s.lease l).HoldOk (s.holdQueue l) → r.HoldOk (s.holdQueue l)) hl (fun _ h => h) hr l'

theorem Lease.holdOk_fallen {r : Lease} {q : List HeldEntry} (h : r.HoldOk q) : r.fallen.HoldOk q := by
  unfold Lease.fallen
  split
  · exact h
  · split
    · rename_i draining
      have empty : q = [] := h.2.2.2 (by simp [Lease.active, draining.1])
      exact ⟨by simp [Lease.drained, Lease.freeRecord, empty], Nat.zero_le _, Nat.zero_le _, fun _ => empty⟩
    · exact h

theorem holdLaw_fall (l : LeaseId) (s : State) (h : HoldLaw s) : HoldLaw (fallOutstanding l s) :=
  holdLaw_of_set h (fallOutstanding_leases s l) (fallOutstanding_holdQueues s l) (fallOutstanding_poolFree s l)
    Lease.holdOk_fallen

theorem Lease.holdOk_afterDrainStart {r : Lease} {q : List HeldEntry} (h : r.HoldOk q) (cause : DrainCause) :
    (r.afterDrainStart cause q.length).HoldOk [] := by
  obtain ⟨count, -, limit, -⟩ := h
  unfold Lease.afterDrainStart
  split
  · exact ⟨rfl, Nat.zero_le _, Nat.zero_le _, fun _ => rfl⟩
  · have none : r.heldCount - q.length = 0 := by omega
    exact ⟨none, none.trans_le (Nat.zero_le _), limit, fun _ => rfl⟩

theorem resizeRanges_holdLimit {c : LeaseClass} {isZero : Bool} {budget carryLimit holdLimit watchThreshold reviewSpan curbLength : Nat}
    (h : resizeRanges c isZero budget carryLimit holdLimit watchThreshold reviewSpan curbLength = true) :
    holdLimit ≤ (if isZero then 0 else Config.holdLimitMax) := by
  simp only [resizeRanges, Bool.and_eq_true, decide_eq_true_eq] at h
  obtain ⟨⟨-, limit⟩, -⟩ := h
  exact limit

theorem holdLaw_leaseChange {s t : State} (c : LeaseChange s t) (h : HoldLaw s) : HoldLaw t := by
  cases c with
  | adjust l r adjusts =>
    refine holdLaw_of_set h rfl rfl rfl ?_
    unfold Lease.HoldOk
    rw [adjusts.heldCount, adjusts.holdLimit, adjusts.active]
    exact id
  | reasons l => exact holdLaw_of_set h (l := l) rfl rfl rfl fun ok => ok
  | resize l p _ _ ranges =>
    obtain ⟨state, -, -, held, -, -, -, -, limit, -⟩ :=
      (s.lease l).resize_unread p.budget p.carryLimit p.holdLimit p.watchThreshold p.reviewSpan p.curbLength
    refine holdLaw_of_set h rfl rfl rfl ?_
    rintro ⟨count, bound, -, empty⟩
    unfold Lease.HoldOk
    rw [held, limit, active_congr state]
    have := resizeRanges_holdLimit ranges
    exact ⟨count, bound, this.trans (by split <;> decide), empty⟩
  | opening l c f p _ free _ checked =>
    refine holdLaw_of_set h (l := l) rfl rfl rfl ?_
    rintro ⟨count, bound, -, -⟩
    obtain ⟨-, limit, -⟩ := checkOpen_ranges checked
    exact ⟨count, bound, limit, fun inactive => absurd inactive (by simp [Lease.opening, Lease.active])⟩
  | drain l cause =>
    exact holdLaw_of_queue h (l := l) rfl rfl (Lease.holdOk_afterDrainStart (h.1 l) cause) rfl
  | rebind p u b =>
    refine holdLaw_of_records h rfl rfl fun l ok => ?_
    rw [lease_rebindSlot]
    exact ok
  | _ => exact h

/-- What leaves and what stays add up. -/
theorem sum_map_sub_add {α : Type} {f g : α → Nat} (xs : List α) (h : ∀ x, g x ≤ f x) :
    (xs.map fun x => f x - g x).sum + (xs.map g).sum = (xs.map f).sum := by
  rw [← List.sum_map_add]
  exact congrArg List.sum (List.map_congr_left fun x _ => Nat.sub_add_cancel (h x))

theorem holdLaw_removeHeld (p : PortId) (s : State) (h : HoldLaw s) : HoldLaw (removeHeld p s) := by
  obtain ⟨each, slots⟩ := h
  have shorter : ∀ l, ((s.holdQueue l).filter fun e => decide (e.port ≠ p)).length ≤ (s.holdQueue l).length :=
    fun l => List.length_filter_le _ _
  refine ⟨fun l => ?_, ?_⟩
  · rw [lease_removeHeld, holdQueue_removeHeld]
    obtain ⟨count, bound, limit, empty⟩ := each l
    refine ⟨?_, (Nat.sub_le _ _).trans bound, limit, fun inactive => ?_⟩
    · have := shorter l
      simp only [Lease.unhold]
      omega
    · have none : s.holdQueue l = [] := empty inactive
      rw [none, List.filter_nil]
  · have parts := sum_map_sub_add (List.finRange 64) shorter
    have kept : (removeHeld p s).holdQueue = fun l => (s.holdQueue l).filter fun e => decide (e.port ≠ p) :=
      funext (holdQueue_removeHeld s p)
    rw [kept]
    show s.poolFree + _ + _ = 96
    rw [Nat.add_assoc, parts, slots]

/-- The hold law with the law of the stream map, which keeps held requests off FREE and DRAINING leases. -/
def HoldStreamLaw (s : State) : Prop := HoldLaw s ∧ StreamLaw s

theorem holdStreamLaw_change {s t : State} (c : Change s t) (h : HoldStreamLaw s) : HoldStreamLaw t := by
  refine ⟨?_, streamLaw_change c h.2⟩
  obtain ⟨h, stream⟩ := h
  cases c with
  | lease c => exact holdLaw_leaseChange c h
  | enqueue q e => exact holdLaw_of_set h (l := e.lease) rfl rfl rfl fun ok => ok
  | enqueueEngine e => exact holdLaw_of_set h (l := e.lease) rfl rfl rfl fun ok => ok
  | joinHeld p u l e bound below room =>
    obtain ⟨count, -, limit, -⟩ := h.1 l
    refine holdLaw_of_queue h (l := l) rfl rfl ⟨?_, ?_, limit, fun inactive => ?_⟩ ?_
    · simp [count]
    · exact (Nat.succ_le_of_lt below).trans limit
    · have active := (stream p u l bound).2
      exact absurd (active.symm.trans inactive) (by decide)
    · simp only [joinHeld, List.length_append, List.length_singleton]
      omega
  | leaveHeld l held opened =>
    obtain ⟨count, bound, limit, -⟩ := h.1 l
    have pos : 0 < (s.holdQueue l).length := List.length_pos_iff.mpr held
    refine holdLaw_of_queue h (l := l) rfl rfl ⟨?_, (Nat.sub_le _ _).trans bound, limit, fun inactive => ?_⟩ ?_
    · simp only [Lease.unhold, List.length_tail]
      omega
    · have active : (s.lease l).active = true := (active_iff _).mpr (.inl opened)
      exact absurd (active.symm.trans inactive) (by decide)
    · simp only [leaveHeld, List.length_tail]
      omega
  | endTag t f after => exact holdLaw_fall f.lease (s.setTag t after) h
  | endEngineTag t f after u e _ _ _ taken =>
    exact taken.keep (P := fun s => HoldLaw s) holdLaw_leaseChange (holdLaw_fall f.lease (s.setTag t after) h)
  | removeHeld p => exact holdLaw_removeHeld p s h
  | removeDispatched p => exact removeDispatched_keep (P := fun s => HoldLaw s) holdLaw_fall p s h
  | reset => exact holdLaw_reset
  | _ => exact h

/-! ### The committed sum (R58) -/

theorem committedLaw_of_commitments {s t : State} (h : CommittedLaw s) (hc : t.committed = s.committed)
    (cap : t.capacity = s.capacity) (hr : ∀ l, (t.lease l).commitment = (s.lease l).commitment) : CommittedLaw t := by
  unfold CommittedLaw
  rw [hc, cap, List.map_congr_left fun l _ => hr l]
  exact h

/-- One record's commitment changes, and the committed sum with it. -/
theorem committedLaw_of_set {s t : State} {l : LeaseId} {r : Lease} (h : CommittedLaw s)
    (hl : t.leases = s.leases.set l.val r) (moved : t.committed + (s.lease l).commitment = s.committed + r.commitment)
    (fits : t.committed ≤ t.capacity) : CommittedLaw t := by
  refine ⟨?_, fits⟩
  have sums := sum_leases_update (l := l) (f := fun l => (s.lease l).commitment) (g := fun l => (t.lease l).commitment)
    fun l' other => by rw [lease_of_set s hl, if_neg (Ne.symm other)]
  have own : (t.lease l).commitment = r.commitment := by rw [lease_of_set s hl, if_pos rfl]
  have sum := h.1
  omega

/-- A lease's commitment is a part of the committed sum. -/
theorem commitment_le_committed {s : State} (h : CommittedLaw s) (l : LeaseId) : (s.lease l).commitment ≤ s.committed := by
  rw [h.1, ← Fin.sum_univ_def]
  exact Finset.single_le_sum (f := fun l => (s.lease l).commitment) (fun _ _ => Nat.zero_le _) (Finset.mem_univ l)

theorem Lease.commitment_of_inactive {r : Lease} (h : r.active = false) : r.commitment = 0 := by
  unfold Lease.commitment
  cases r.cls <;> simp [h]

theorem Lease.commitment_of_active {r : Lease} (h : r.active = true) :
    r.commitment = if r.cls = .guaranteed then r.rate else 0 := by
  unfold Lease.commitment
  cases r.cls <;> simp [h]

theorem Lease.commitment_fallen (r : Lease) : r.fallen.commitment = r.commitment := by
  unfold Lease.fallen
  split
  · rfl
  · split
    · rename_i draining
      rw [r.commitment_of_inactive (by simp [Lease.active, draining.1])]
      rfl
    · rfl

theorem committedLaw_fall (l : LeaseId) (s : State) (h : CommittedLaw s) : CommittedLaw (fallOutstanding l s) :=
  committedLaw_of_commitments h (fallOutstanding_committed s l) (fallOutstanding_capacity s l)
    (lease_proj_of_set Lease.commitment (fallOutstanding_leases s l) (Lease.commitment_fallen _))

theorem Lease.active_afterDrainStart (r : Lease) (cause : DrainCause) (held : Nat) :
    (r.afterDrainStart cause held).active = false := by
  unfold Lease.afterDrainStart
  split <;> rfl

theorem rateOf_mono {budget budget' : Nat} (h : budget ≤ budget') (k : Nat) : rateOf budget k ≤ rateOf budget' k :=
  Nat.mul_le_mul_right _ h

theorem committedLaw_resizeRecord {s : State} {l : LeaseId} {p : ResizeParams} (active : (s.lease l).active = true)
    (fits : (s.lease l).cls = .guaranteed → (s.lease l).budget < p.budget → committedWith s l p.budget ≤ s.capacity)
    (h : CommittedLaw s) : CommittedLaw (resizeRecord l p s) := by
  obtain ⟨state, -, -, -, -, cls, k, budget, -⟩ :=
    (s.lease l).resize_unread p.budget p.carryLimit p.holdLimit p.watchThreshold p.reviewSpan p.curbLength
  have part := commitment_le_committed h l
  have before := Lease.commitment_of_active active
  have after := Lease.commitment_of_active ((active_congr state).trans active)
  rw [cls, Lease.rate, k, budget] at after
  have cap := h.2
  by_cases guaranteed : (s.lease l).cls = .guaranteed
  · rw [if_pos guaranteed] at before after
    have committed : (resizeRecord l p s).committed = committedWith s l p.budget := if_pos guaranteed
    have moved : committedWith s l p.budget + (s.lease l).rate = s.committed + rateOf p.budget (s.lease l).k := by
      unfold committedWith
      omega
    refine committedLaw_of_set h rfl ?_ ?_
    · rw [committed, before, after]
      exact moved
    · rw [committed]
      by_cases grows : (s.lease l).budget < p.budget
      · exact fits guaranteed grows
      · have shrinks : rateOf p.budget (s.lease l).k ≤ (s.lease l).rate := rateOf_mono (Nat.le_of_not_lt grows) _
        show committedWith s l p.budget ≤ s.capacity
        omega
  · rw [if_neg guaranteed] at before after
    have committed : (resizeRecord l p s).committed = s.committed := if_neg guaranteed
    exact committedLaw_of_set h rfl (by rw [committed, before, after]) (committed.trans_le cap)

theorem committedLaw_openRecord {s : State} {l : LeaseId} {c : LeaseClass} {f : Option Fence} {p : OpenParams}
    (free : (s.lease l).state = .free) (fits : c = .guaranteed → s.committed + rateOf p.budget p.k ≤ s.capacity)
    (h : CommittedLaw s) : CommittedLaw (openRecord l c f p s) := by
  have before : (s.lease l).commitment = 0 := Lease.commitment_of_inactive (by simp [Lease.active, free])
  have after : ((s.lease l).opening c f p).commitment = if c = .guaranteed then rateOf p.budget p.k else 0 :=
    Lease.commitment_of_active rfl
  have cap := h.2
  by_cases guaranteed : c = .guaranteed
  · rw [if_pos guaranteed] at after
    have committed : (openRecord l c f p s).committed = s.committed + rateOf p.budget p.k := if_pos guaranteed
    exact committedLaw_of_set h (l := l) rfl (by rw [committed, before, after]; rfl) (committed.trans_le (fits guaranteed))
  · rw [if_neg guaranteed] at after
    have committed : (openRecord l c f p s).committed = s.committed := if_neg guaranteed
    exact committedLaw_of_set h (l := l) rfl (by rw [committed, before, after]) (committed.trans_le cap)

theorem committedLaw_drainClaim {s : State} {l : LeaseId} (cause : DrainCause) (active : (s.lease l).active = true)
    (h : CommittedLaw s) : CommittedLaw (drainClaim l cause s) := by
  have part := commitment_le_committed h l
  have before := Lease.commitment_of_active active
  have after := Lease.commitment_of_inactive ((s.lease l).active_afterDrainStart cause (s.holdQueue l).length)
  have cap := h.2
  by_cases guaranteed : (s.lease l).cls = .guaranteed
  · rw [if_pos guaranteed] at before
    have committed : (drainClaim l cause s).committed = s.committed - (s.lease l).rate := if_pos guaranteed
    refine committedLaw_of_set h (l := l) rfl ?_ ?_
    · rw [committed, before, after]
      omega
    · rw [committed]
      exact (Nat.sub_le _ _).trans cap
  · rw [if_neg guaranteed] at before
    have committed : (drainClaim l cause s).committed = s.committed := if_neg guaranteed
    exact committedLaw_of_set h (l := l) rfl (by rw [committed, before, after]) (committed.trans_le cap)

theorem committedLaw_leaseChange {s t : State} (c : LeaseChange s t) (h : CommittedLaw s) : CommittedLaw t := by
  cases c with
  | adjust l r adjusts =>
    exact committedLaw_of_commitments h rfl rfl (lease_proj_of_set Lease.commitment rfl adjusts.commitment)
  | reasons l => exact committedLaw_of_commitments h rfl rfl (lease_proj_of_set (l := l) Lease.commitment rfl rfl)
  | resize l p active _ _ fits => exact committedLaw_resizeRecord active fits h
  | opening l c f p _ free _ _ fits => exact committedLaw_openRecord free fits h
  | drain l cause active => exact committedLaw_drainClaim cause active h
  | rebind p u b =>
    refine committedLaw_of_commitments h rfl rfl fun l => ?_
    rw [lease_rebindSlot]
    rfl
  | capacity c fits => exact ⟨h.1, fits⟩
  | _ => exact h

theorem committedLaw_change {s t : State} (c : Change s t) (h : CommittedLaw s) : CommittedLaw t := by
  cases c with
  | lease c => exact committedLaw_leaseChange c h
  | enqueue q e => exact committedLaw_of_commitments h rfl rfl (lease_proj_of_set (l := e.lease) Lease.commitment rfl rfl)
  | enqueueEngine e => exact committedLaw_of_commitments h rfl rfl (lease_proj_of_set (l := e.lease) Lease.commitment rfl rfl)
  | joinHeld p u l => exact committedLaw_of_commitments h rfl rfl (lease_proj_of_set (l := l) Lease.commitment rfl rfl)
  | leaveHeld l => exact committedLaw_of_commitments h rfl rfl (lease_proj_of_set (l := l) Lease.commitment rfl rfl)
  | endTag t f after => exact committedLaw_fall f.lease (s.setTag t after) h
  | endEngineTag t f after u e _ _ _ taken =>
    exact taken.keep (P := fun s => CommittedLaw s) committedLaw_leaseChange (committedLaw_fall f.lease (s.setTag t after) h)
  | removeHeld p =>
    refine committedLaw_of_commitments h rfl rfl fun l => ?_
    rw [lease_removeHeld]
    rfl
  | removeDispatched p => exact removeDispatched_keep (P := fun s => CommittedLaw s) committedLaw_fall p s h
  | reset => exact committedLaw_reset
  | _ => exact h

end Sys2Proof.Machine
end

section
/-!
PROOF. The laws of outstanding and of the engine's request, kept by every change.
-/

namespace Sys2Proof.Machine

/-! ### Outstanding (R123) -/

theorem outstandingLaw_of_outstanding {s t : State} (h : OutstandingLaw s)
    (hr : ∀ l, (t.lease l).outstanding = (s.lease l).outstanding) (hw : ∀ l, workOf t l = workOf s l) : OutstandingLaw t := by
  intro l
  rw [hr, hw]
  exact h l

theorem Lease.outstanding_fallen (r : Lease) : r.fallen.outstanding = r.outstanding - 1 := by
  unfold Lease.fallen
  split
  · rename_i none
    rw [none]
  · split
    · rename_i draining
      rw [draining.2]
      rfl
    · rfl

theorem outstanding_fallOutstanding (l l' : LeaseId) (s : State) :
    ((fallOutstanding l s).lease l').outstanding = (s.lease l').outstanding - (if l = l' then 1 else 0) := by
  rw [lease_of_set s (fallOutstanding_leases s l) l']
  split
  · rename_i e
    rw [← e, Lease.outstanding_fallen]
  · rfl

/-- Dispatch entries and tags of a lease, after the tables are written out. -/
theorem workOf_eq (s : State) (l : LeaseId) : workOf s l =
    s.gQueue.countP (fun e => decide (e.lease = l)) + s.sQueue.countP (fun e => decide (e.lease = l)) +
      s.tags.toList.countP (Tag.names l) := by
  rw [workOf, List.countP_append]

theorem Tag.names_of_ended {v : Tag} (h : v.ended = true) (l : LeaseId) : v.names l = false := by
  cases v <;> simp_all [Tag.ended, Tag.names]

/-- An ISSUED tag that ends is one piece of work less for its lease. -/
theorem workOf_setTag_ended {s : State} {t : TagId} {f : IssuedTag} {after : Tag} (issued : s.tag t = .issued f)
    (ended : after.ended = true) (l : LeaseId) :
    workOf (s.setTag t after) l + (if f.lease = l then 1 else 0) = workOf s l := by
  have moved := countP_toList_set s.tags t after (Tag.names l)
  have was : s.tags[t.val] = .issued f := issued
  have names : Tag.names l s.tags[t.val] = decide (f.lease = l) := by
    rw [was]
    rfl
  rw [names, Tag.names_of_ended ended] at moved
  simp only [decide_eq_true_eq, Bool.false_eq_true, if_false] at moved
  rw [workOf_eq, workOf_eq]
  show _ + _ + (s.tags.set t.val after).toList.countP _ + _ = _
  show s.gQueue.countP _ + s.sQueue.countP _ + _ + _ = _
  omega

theorem outstandingLaw_endTag {s : State} {t : TagId} {f : IssuedTag} {after : Tag} (issued : s.tag t = .issued f)
    (ended : after.ended = true) (h : OutstandingLaw s) : OutstandingLaw (endTag t f after s) := by
  intro l
  have work := workOf_setTag_ended issued ended l
  have was : ((s.setTag t after).lease l).outstanding = workOf s l := h l
  unfold endTag
  rw [outstanding_fallOutstanding, was]
  have same : workOf (fallOutstanding f.lease (s.setTag t after)) l = workOf (s.setTag t after) l := by
    simp only [workOf, fallOutstanding_gQueue, fallOutstanding_sQueue, fallOutstanding_tags]
  omega

/-- Falls for a list of entries lower outstanding of each lease by the entries that name it. -/
theorem outstanding_foldl_fall (gone : List DispatchEntry) (s : State) (l : LeaseId) :
    ((gone.foldl (fun s e => fallOutstanding e.lease s) s).lease l).outstanding =
      (s.lease l).outstanding - gone.countP (fun e => decide (e.lease = l)) := by
  induction gone generalizing s with
  | nil => rfl
  | cons e rest ih =>
    rw [List.foldl_cons, ih, outstanding_fallOutstanding, List.countP_cons]
    simp only [decide_eq_true_eq]
    omega

theorem outstandingLaw_removeDispatched (p : PortId) (s : State) (h : OutstandingLaw s) :
    OutstandingLaw (removeDispatched p s) := by
  intro l
  have after : ((removeDispatched p s).lease l).outstanding =
      (s.lease l).outstanding - ((s.gQueue ++ s.sQueue).filter (·.ofPort p)).countP (fun e => decide (e.lease = l)) :=
    outstanding_foldl_fall _ _ l
  have parts := List.countP_eq_countP_filter_add (s.gQueue ++ s.sQueue) (fun e => decide (e.lease = l)) (·.ofPort p)
  have kept : workOf (removeDispatched p s) l =
      ((s.gQueue ++ s.sQueue).filter fun e => !e.ofPort p).countP (fun e => decide (e.lease = l)) +
        s.tags.toList.countP (Tag.names l) := by
    rw [removeDispatched_fixed]
    simp only [workOf, List.filter_append]
  have was : (s.lease l).outstanding =
      (s.gQueue ++ s.sQueue).countP (fun e => decide (e.lease = l)) + s.tags.toList.countP (Tag.names l) := h l
  rw [after, kept]
  omega

/-- An entry that leaves a queue under a tag stays one piece of work of its lease. -/
theorem countP_names_issue {s : State} {t : TagId} (free : s.tag t = .free) (e : DispatchEntry) (l : LeaseId) :
    (s.tags.set t.val (.issued (issuedFields e))).toList.countP (Tag.names l) =
      s.tags.toList.countP (Tag.names l) + (if e.lease = l then 1 else 0) := by
  have moved := countP_toList_set s.tags t (.issued (issuedFields e)) (Tag.names l)
  have was : s.tags[t.val] = .free := free
  have now : Tag.names l (.issued (issuedFields e)) = decide (e.lease = l) := rfl
  rw [was, now] at moved
  simpa [Tag.names] using moved

theorem workOf_enqueue (q : QueueName) (e : DispatchEntry) (s : State) (l : LeaseId) :
    workOf (enqueue q e s) l = workOf s l + (if e.lease = l then 1 else 0) := by
  rw [workOf_eq, workOf_eq]
  cases q <;> by_cases named : e.lease = l <;> simp [enqueue, named, List.countP_append] <;> omega

theorem outstandingLaw_enqueue (q : QueueName) (e : DispatchEntry) (s : State) (h : OutstandingLaw s) :
    OutstandingLaw (enqueue q e s) := by
  intro l
  rw [workOf_enqueue, lease_of_set s (l := e.lease) rfl l]
  split
  · rename_i named
    have := h e.lease
    rw [← named]
    exact congrArg (· + 1) this
  · exact h l

theorem Lease.outstanding_afterDrainStart (r : Lease) (cause : DrainCause) (held : Nat) :
    (r.afterDrainStart cause held).outstanding = r.outstanding := by
  unfold Lease.afterDrainStart
  split
  · rename_i none
    rw [none]
    rfl
  · rfl

theorem outstandingLaw_leaseChange {s t : State} (c : LeaseChange s t) (h : OutstandingLaw s) : OutstandingLaw t := by
  obtain ⟨g, q, -, v, -⟩ := dispatcher_leaseChange c
  refine outstandingLaw_of_outstanding h ?_ fun l => by simp only [workOf, g, q, v]
  cases c with
  | adjust l r adjusts => exact lease_proj_of_set Lease.outstanding rfl adjusts.outstanding
  | reasons l => exact lease_proj_of_set (l := l) Lease.outstanding rfl rfl
  | resize l p =>
    obtain ⟨-, -, -, -, outstanding, -⟩ :=
      (s.lease l).resize_unread p.budget p.carryLimit p.holdLimit p.watchThreshold p.reviewSpan p.curbLength
    exact lease_proj_of_set Lease.outstanding rfl outstanding
  | opening l => exact lease_proj_of_set (l := l) Lease.outstanding rfl rfl
  | drain l => exact lease_proj_of_set (l := l) Lease.outstanding rfl (Lease.outstanding_afterDrainStart _ _ _)
  | rebind p u b =>
    intro l
    rw [lease_rebindSlot]
  | _ => exact fun _ => rfl

theorem outstandingLaw_change {s t : State} (c : Change s t) (h : OutstandingLaw s) : OutstandingLaw t := by
  cases c with
  | lease c => exact outstandingLaw_leaseChange c h
  | enqueue q e => exact outstandingLaw_enqueue q e s h
  | enqueueEngine e => exact outstandingLaw_enqueue .g e s h
  | joinHeld p u l => exact outstandingLaw_of_outstanding h (lease_proj_of_set (l := l) Lease.outstanding rfl rfl) fun _ => rfl
  | leaveHeld l => exact outstandingLaw_of_outstanding h (lease_proj_of_set (l := l) Lease.outstanding rfl rfl) fun _ => rfl
  | issueG e rest t head free =>
    refine outstandingLaw_of_outstanding h (fun _ => rfl) fun l => ?_
    have tags := countP_names_issue free e l
    rw [workOf_eq, workOf_eq, head, List.countP_cons]
    simp only [issueG, head, List.tail_cons, tags, decide_eq_true_eq]
    omega
  | issueS e rest t head free =>
    refine outstandingLaw_of_outstanding h (fun _ => rfl) fun l => ?_
    have tags := countP_names_issue free e l
    rw [workOf_eq, workOf_eq, head, List.countP_cons]
    simp only [issueS, head, List.tail_cons, tags, decide_eq_true_eq]
    omega
  | endTag t f after issued _ ended => exact outstandingLaw_endTag issued ended h
  | endEngineTag t f after u e issued _ ended taken =>
    exact taken.keep (P := fun s => OutstandingLaw s) outstandingLaw_leaseChange (outstandingLaw_endTag issued ended h)
  | tags v names =>
    refine outstandingLaw_of_outstanding h (fun _ => rfl) fun l => ?_
    have same : v.toList.countP (Tag.names l) = s.tags.toList.countP (Tag.names l) := countP_toList_congr fun t => names t l
    simp only [workOf, same]
  | removeHeld p =>
    refine outstandingLaw_of_outstanding h (fun l => ?_) fun _ => rfl
    rw [lease_removeHeld]
    rfl
  | removeDispatched p => exact outstandingLaw_removeDispatched p s h
  | reset ports v link e _ ended =>
    refine outstandingLaw_of_outstanding outstandingLaw_reset (fun _ => rfl) fun l => ?_
    have none : v.toList.countP (Tag.names l) = 0 := countP_toList_eq_zero v fun t => Tag.names_of_ended (ended t) l
    have none' : State.reset.tags.toList.countP (Tag.names l) = 0 :=
      countP_toList_eq_zero _ fun t => by
        have : State.reset.tags[t.val] = .free := tag_reset t
        rw [this]
        rfl
    simp only [workOf, none, none']
  | _ => exact h

/-! ### The engine's request (R140, R145, R146) -/

theorem Tag.isEngine_of_ended {v : Tag} (h : v.ended = true) : v.isEngine = false := by
  cases v <;> simp_all [Tag.ended, Tag.isEngine]

/-- Where the request is PLACED it is not ISSUED. -/
theorem EngineState.placed_issued (e : EngineState) :
    e.placed = 0 ∧ e.issued = 0 ∨ e.placed = 1 ∧ e.issued = 0 ∨ e.placed = 0 ∧ e.issued = 1 := by
  rcases e with _ | _ | ⟨step, phase, stopPending⟩ | _
  · exact .inl ⟨rfl, rfl⟩
  · exact .inl ⟨rfl, rfl⟩
  · cases phase with
    | presented => exact .inl ⟨rfl, rfl⟩
    | waiting => exact .inl ⟨rfl, rfl⟩
    | placed => exact .inr (.inl ⟨rfl, rfl⟩)
    | issued => exact .inr (.inr ⟨rfl, rfl⟩)
  · exact .inl ⟨rfl, rfl⟩

theorem EngineState.issuedNow_of_placed {e : EngineState} (h : e.placed = 1) :
    e.issuedNow.placed = 0 ∧ e.issuedNow.issued = 1 := by
  rcases e with _ | _ | ⟨step, phase, stopPending⟩ | _
  · exact absurd h (by decide)
  · exact absurd h (by decide)
  · cases phase with
    | placed => exact ⟨rfl, rfl⟩
    | presented => exact absurd h Nat.zero_ne_one
    | waiting => exact absurd h Nat.zero_ne_one
    | issued => exact absurd h Nat.zero_ne_one
  · exact absurd h (by decide)

/-- The engine tags after a tag is written. -/
theorem countP_isEngine_set (s : State) (t : TagId) (v : Tag) :
    (s.tags.set t.val v).toList.countP Tag.isEngine + (if (s.tag t).isEngine then 1 else 0) =
      s.tags.toList.countP Tag.isEngine + (if v.isEngine then 1 else 0) :=
  countP_toList_set s.tags t v Tag.isEngine

theorem engineRequestLaw_leaseChange {s t : State} (c : LeaseChange s t) :
    t.engine.state.placed = s.engine.state.placed ∧ t.engine.state.issued = s.engine.state.issued := by
  cases c with
  | retrigger => exact ⟨EngineState.placed_retrigger _, EngineState.issued_retrigger _⟩
  | _ => exact ⟨rfl, rfl⟩

theorem engineRequestLaw_issueG {s : State} {e : DispatchEntry} {rest : List DispatchEntry} {t : TagId}
    (head : s.gQueue = e :: rest) (free : s.tag t = .free) (h : EngineRequestLaw s) : EngineRequestLaw (issueG e t s) := by
  obtain ⟨g, v, q⟩ := (engineRequestLaw_iff s).mp h
  rw [engineRequestLaw_iff]
  have tags := countP_isEngine_set s t (.issued (issuedFields e))
  have now : (Tag.issued (issuedFields e)).isEngine = e.origin.isEngine := rfl
  have was : (s.tag t).isEngine = false := by rw [free]; rfl
  rw [now, was] at tags
  rw [head, List.countP_cons] at g
  simp only [issueG, head, List.tail_cons, Engine.noteIssue]
  have phases := s.engine.state.placed_issued
  by_cases own : e.origin.isEngine = true
  · simp only [own, if_true, Bool.false_eq_true, if_false] at g tags ⊢
    have placed : s.engine.state.placed = 1 := by omega
    obtain ⟨p', i'⟩ := EngineState.issuedNow_of_placed placed
    exact ⟨by omega, by omega, q⟩
  · simp only [own, Bool.false_eq_true, if_false] at g tags ⊢
    exact ⟨by omega, by omega, q⟩

theorem engineRequestLaw_issueS {s : State} {e : DispatchEntry} {rest : List DispatchEntry} {t : TagId}
    (head : s.sQueue = e :: rest) (free : s.tag t = .free) (h : EngineRequestLaw s) : EngineRequestLaw (issueS e t s) := by
  obtain ⟨g, v, q⟩ := (engineRequestLaw_iff s).mp h
  rw [engineRequestLaw_iff]
  have tags := countP_isEngine_set s t (.issued (issuedFields e))
  have now : (Tag.issued (issuedFields e)).isEngine = e.origin.isEngine := rfl
  have was : (s.tag t).isEngine = false := by rw [free]; rfl
  rw [now, was] at tags
  rw [head, List.countP_cons] at q
  have client : ¬ e.origin.isEngine = true := by
    intro own
    rw [if_pos own] at q
    omega
  simp only [issueS, head, List.tail_cons, Engine.noteIssue]
  simp only [client, Bool.false_eq_true, if_false] at q tags ⊢
  exact ⟨g, by omega, q⟩

theorem DispatchEntry.not_ofPort_of_isEngine {e : DispatchEntry} (h : e.origin.isEngine = true) (p : PortId) :
    e.ofPort p = false := by
  unfold DispatchEntry.ofPort
  cases ho : e.origin with
  | engine => rfl
  | client q id => simp [ho, Origin.isEngine] at h

/-- The engine's entries are no port's. -/
theorem countP_isEngine_filter (entries : List DispatchEntry) (p : PortId) :
    (entries.filter fun e => !e.ofPort p).countP (fun e => e.origin.isEngine) = entries.countP fun e => e.origin.isEngine := by
  rw [List.countP_filter]
  congr 1
  funext e
  cases h : e.origin.isEngine
  · rfl
  · simp [DispatchEntry.not_ofPort_of_isEngine h p]

theorem engineRequestLaw_change {s t : State} (c : Change s t) (h : EngineRequestLaw s) : EngineRequestLaw t := by
  obtain ⟨g, v, q⟩ := (engineRequestLaw_iff s).mp h
  rw [engineRequestLaw_iff]
  cases c with
  | lease c =>
    obtain ⟨g', q', -, v', -⟩ := dispatcher_leaseChange c
    obtain ⟨placed, issued⟩ := engineRequestLaw_leaseChange c
    rw [g', q', v', placed, issued]
    exact ⟨g, v, q⟩
  | engine e _ placed issued => exact ⟨g.trans placed.symm, v.trans issued.symm, q⟩
  | enqueue queue e _ _ client =>
    refine ⟨?_, v, ?_⟩
    · rw [← show s.engine.state.placed = (enqueue queue e s).engine.state.placed from rfl, ← g]
      cases queue <;> simp [enqueue, List.countP_append, client]
    · rw [← q]
      cases queue <;> simp [enqueue, List.countP_append, client]
  | enqueueEngine e step stopPending _ presented _ engine =>
    have placed : s.engine.state.placed = 0 := by rw [presented]; rfl
    have issued : s.engine.state.issued = 0 := by rw [presented]; rfl
    refine ⟨?_, v.trans issued, q⟩
    show (s.gQueue ++ [e]).countP (fun e => e.origin.isEngine) = 1
    rw [List.countP_append, g, placed]
    simp [engine, Origin.isEngine]
  | issueG e rest t head free => exact engineRequestLaw_issueG head free h
  | issueS e rest t head free => exact engineRequestLaw_issueS head free h
  | endTag t f after issued client ended =>
    rw [endTag_fixed]
    refine ⟨g, ?_, q⟩
    have tags := countP_isEngine_set s t after
    rw [issued, show (Tag.issued f).isEngine = f.origin.isEngine from rfl, client, Tag.isEngine_of_ended ended] at tags
    have same : (s.tags.set t.val after).toList.countP Tag.isEngine = s.tags.toList.countP Tag.isEngine := by simpa using tags
    exact same.trans v
  | endEngineTag t f after u e issued engine ended taken _ placed notIssued =>
    obtain ⟨g', q', -, v', -⟩ := dispatcher_endTag taken
    have tags := countP_isEngine_set s t after
    rw [issued, show (Tag.issued f).isEngine = true from congrArg Origin.isEngine engine, Tag.isEngine_of_ended ended] at tags
    simp only [if_true, Bool.false_eq_true, if_false] at tags
    have phases := s.engine.state.placed_issued
    refine ⟨?_, ?_, q'.symm ▸ q⟩
    · show u.gQueue.countP _ = e.state.placed
      rw [g']
      omega
    · show u.tags.toList.countP _ = e.state.issued
      rw [v']
      omega
  | tags w _ engine => exact ⟨g, (countP_toList_congr engine).trans v, q⟩
  | removeDispatched p =>
    rw [removeDispatched_fixed]
    exact ⟨(countP_isEngine_filter _ p).trans g, v, (countP_isEngine_filter _ p).trans q⟩
  | reset ports w link e _ ended _ _ stopped =>
    refine ⟨?_, ?_, rfl⟩
    · show 0 = e.state.placed
      rw [stopped]
      rfl
    · show w.toList.countP Tag.isEngine = e.state.issued
      rw [stopped]
      exact countP_toList_eq_zero w fun t => Tag.isEngine_of_ended (ended t)
  | _ => exact ⟨g, v, q⟩

end Sys2Proof.Machine
end

section
/-!
PROOF. The laws of lease 0, of the lease states and of the periods, kept by every change; all the laws together.
-/

namespace Sys2Proof.Machine

/-! ### Lease 0 (R21, R22) -/

/-- The record of the engine's lease. -/
structure Lease.ZeroOk (r : Lease) : Prop where
  state : r.state = .opened
  cls : r.cls = .guaranteed
  k : r.k = 0
  term : r.term = 0
  holdLimit : r.holdLimit = 0
  overdraw : r.overdrawPermitted = false
  fence : r.fence = none
  notify : r.notify = 0
  reasons : r.reasons = 0

/-- The law of lease 0 by the table each part speaks of. -/
structure LeaseZero (s : State) : Prop where
  record : (s.lease 0).ZeroOk
  held : s.holdQueue 0 = []
  release : s.release 0 = .idle
  attention : s.attention.getLsbD 0 = false
  unbound : ∀ (p : PortId) (t : StreamTag), s.slot p t ≠ some 0

theorem leaseZeroLaw_iff (s : State) : LeaseZeroLaw s ↔ LeaseZero s := by
  constructor
  · rintro ⟨a, b, c, d, e, f, g, i, j, k, m, n, o⟩
    exact ⟨⟨a, b, c, d, e, f, g, i, j⟩, k, m, n, o⟩
  · rintro ⟨⟨a, b, c, d, e, f, g, i, j⟩, k, m, n, o⟩
    exact ⟨a, b, c, d, e, f, g, i, j, k, m, n, o⟩

/-- Lease 0's law stands when a record is replaced that either is not lease 0's or stays what lease 0's is. -/
theorem leaseZero_of_set {s t : State} {l : LeaseId} {r : Lease} (h : LeaseZero s) (hl : t.leases = s.leases.set l.val r)
    (hr : l = 0 → (s.lease 0).ZeroOk → r.ZeroOk) (hq : t.holdQueues = s.holdQueues) (hrel : t.releases = s.releases)
    (ha : t.attention.getLsbD 0 = s.attention.getLsbD 0) (hs : t.streams = s.streams) : LeaseZero t where
  record := by
    rw [lease_of_set s hl 0]
    split
    · exact hr ‹_› h.record
    · exact h.record
  held := by
    unfold State.holdQueue
    rw [hq]
    exact h.held
  release := by
    unfold State.release
    rw [hrel]
    exact h.release
  attention := ha.trans h.attention
  unbound p u := by
    rw [slot_congr hs]
    exact h.unbound p u

theorem Lease.ZeroOk.fallen {r : Lease} (h : r.ZeroOk) : r.fallen.ZeroOk := by
  unfold Lease.fallen
  split
  · exact h
  · split
    · rename_i draining
      exact absurd (h.state.symm.trans draining.1) (by decide)
    · exact ⟨h.state, h.cls, h.k, h.term, h.holdLimit, h.overdraw, h.fence, h.notify, h.reasons⟩

theorem leaseZero_fall (l : LeaseId) (s : State) (h : LeaseZero s) : LeaseZero (fallOutstanding l s) := by
  refine leaseZero_of_set h (fallOutstanding_leases s l) (fun e ok => e ▸ ok.fallen) (fallOutstanding_holdQueues s l)
    (fallOutstanding_releases s l) ?_ (fallOutstanding_streams s l)
  by_cases e : l = 0
  · subst e
    have none : (s.lease 0).fallen.reasons = 0 := h.record.fallen.reasons
    have same : (fallOutstanding 0 s).attention = s.attention := by
      rw [fallOutstanding_eq]
      exact if_neg fun joins => joins.2 none
    rw [same]
  · exact fallOutstanding_attention_ne s e

theorem Lease.ZeroOk.adjusts {r r' : Lease} (h : r.ZeroOk) (a : r.Adjusts r') (state : r'.state = .opened) : r'.ZeroOk :=
  ⟨state, a.cls.trans h.cls, a.k.trans h.k, a.term.trans h.term, a.holdLimit.trans h.holdLimit,
    a.overdrawPermitted.trans h.overdraw, a.fence.trans h.fence, a.notify.trans h.notify, a.reasons.trans h.reasons⟩

theorem Lease.ZeroOk.unread {r : Lease} (h : r.ZeroOk) (heldCount outstanding boundSlots : Nat) :
    ({ r with heldCount := heldCount, outstanding := outstanding, boundSlots := boundSlots } : Lease).ZeroOk :=
  ⟨h.state, h.cls, h.k, h.term, h.holdLimit, h.overdraw, h.fence, h.notify, h.reasons⟩

theorem leaseZero_drainClaim {s : State} {l : LeaseId} (cause : DrainCause) (zero : l = 0 → (s.lease 0).term ≠ 0)
    (h : LeaseZero s) : LeaseZero (drainClaim l cause s) := by
  have other : l ≠ 0 := fun e => zero e h.record.term
  refine ⟨?_, ?_, ?_, ?_, fun p u named => ?_⟩
  · rw [lease_of_set s (l := l) rfl 0, if_neg other]
    exact h.record
  · rw [holdQueue_of_set (s := s) (l := l) rfl, if_neg other]
    exact h.held
  · rw [release_drainClaim, if_neg other]
    exact h.release
  · exact (attentionAfter_ne s other _).trans h.attention
  · rw [slot_drainClaim] at named
    split at named
    · exact absurd named (by simp)
    · exact h.unbound p u named

theorem leaseZero_leaseChange {s t : State} (c : LeaseChange s t) (h : LeaseZero s) : LeaseZero t := by
  cases c with
  | releases v idle => exact ⟨h.record, h.held, idle 0 h.held h.release, h.attention, h.unbound⟩
  | adjust l r adjusts _ zero =>
    refine leaseZero_of_set h rfl (fun e ok => ?_) rfl rfl rfl rfl
    subst e
    exact ok.adjusts adjusts (zero rfl ok.state)
  | reasons l reasons attention others own none =>
    by_cases e : l = 0
    · subst e
      have ok := h.record
      have empty := none ok.notify ok.reasons
      have absent : attention.getLsbD 0 = false := by
        have was : s.attention.getLsbD (0 : LeaseId).val = decide ((s.lease 0).reasons ≠ 0) := by
          rw [ok.reasons]
          exact h.attention
        have now := own was
        rw [empty] at now
        exact now
      refine leaseZero_of_set h rfl (fun _ _ => ?_) rfl rfl (absent.trans h.attention.symm) rfl
      exact ⟨ok.state, ok.cls, ok.k, ok.term, ok.holdLimit, ok.overdraw, ok.fence, ok.notify, empty⟩
    · exact leaseZero_of_set h (l := l) rfl (fun e' => absurd e' e) rfl rfl (others 0 (Ne.symm e)) rfl
  | resize l p _ _ ranges =>
    refine leaseZero_of_set h rfl (fun e ok => ?_) rfl rfl rfl rfl
    subst e
    obtain ⟨state, reasons, -, -, -, cls, k, -, limit, -, term, overdraw, fence, notify⟩ :=
      (s.lease 0).resize_unread p.budget p.carryLimit p.holdLimit p.watchThreshold p.reviewSpan p.curbLength
    have none : p.holdLimit = 0 := Nat.le_zero.mp (resizeRanges_holdLimit ranges)
    exact ⟨state.trans ok.state, cls.trans ok.cls, k.trans ok.k, term.trans ok.term, limit.trans none,
      overdraw.trans ok.overdraw, fence.trans ok.fence, notify.trans ok.notify, reasons.trans ok.reasons⟩
  | opening l c f p other => exact leaseZero_of_set h (l := l) rfl (fun e => absurd e other) rfl rfl rfl rfl
  | drain l cause _ zero => exact leaseZero_drainClaim cause zero h
  | rebind p u b bound =>
    refine ⟨?_, h.held, h.release, h.attention, fun p' u' named => ?_⟩
    · rw [lease_rebindSlot]
      exact h.record.unread _ _ _
    · rw [slot_of_set (s := s) rfl] at named
      split at named
      · exact (bound 0 named).1 rfl
      · exact h.unbound p' u' named
  | _ => exact ⟨h.record, h.held, h.release, h.attention, h.unbound⟩

/-- A hold queue other than lease 0's changes, with its record and its release. -/
theorem leaseZero_of_queue {s t : State} {l : LeaseId} {r : Lease} {q : List HeldEntry} (h : LeaseZero s) (other : l ≠ 0)
    (hl : t.leases = s.leases.set l.val r) (hq : t.holdQueues = s.holdQueues.set l.val q)
    (hrel : t.release 0 = s.release 0) (ha : t.attention = s.attention) (hs : t.streams = s.streams) : LeaseZero t where
  record := by
    rw [lease_of_set s hl 0, if_neg other]
    exact h.record
  held := by
    rw [holdQueue_of_set hq, if_neg other]
    exact h.held
  release := hrel.trans h.release
  attention := ha ▸ h.attention
  unbound p u := by
    rw [slot_congr hs]
    exact h.unbound p u

theorem leaseZero_removeHeld (p : PortId) (s : State) (h : LeaseZero s) : LeaseZero (removeHeld p s) := by
  refine ⟨?_, ?_, ?_, h.attention, h.unbound⟩
  · rw [lease_removeHeld]
    exact h.record.unread _ _ _
  · rw [holdQueue_removeHeld, h.held, List.filter_nil]
  · rw [release_removeHeld, h.held, if_neg fun gone => gone.1 (Nat.zero_sub _)]
    exact h.release

theorem leaseZero_change {s t : State} (c : Change s t) (h : LeaseZero s) : LeaseZero t := by
  cases c with
  | lease c => exact leaseZero_leaseChange c h
  | enqueue q e =>
    refine leaseZero_of_set h (l := e.lease) rfl (fun zero ok => ?_) rfl rfl rfl rfl
    rw [zero]
    exact ok.unread _ _ _
  | enqueueEngine e =>
    refine leaseZero_of_set h (l := e.lease) rfl (fun zero ok => ?_) rfl rfl rfl rfl
    rw [zero]
    exact ok.unread _ _ _
  | joinHeld p u l e bound =>
    exact leaseZero_of_queue h (fun zero => h.unbound p u (zero ▸ bound)) rfl rfl rfl rfl rfl
  | leaveHeld l held =>
    have other : l ≠ 0 := fun zero => held (zero ▸ h.held)
    refine leaseZero_of_queue h other rfl rfl ?_ rfl rfl
    rw [release_of_set (s := s) (l := l) rfl, if_neg other]
  | endTag t f after =>
    exact leaseZero_fall f.lease (s.setTag t after) ⟨h.record, h.held, h.release, h.attention, h.unbound⟩
  | endEngineTag t f after u e _ _ _ taken =>
    have ended := leaseZero_fall f.lease (s.setTag t after) ⟨h.record, h.held, h.release, h.attention, h.unbound⟩
    have hu := taken.keep leaseZero_leaseChange ended
    exact ⟨hu.record, hu.held, hu.release, hu.attention, hu.unbound⟩
  | removeHeld p => exact leaseZero_removeHeld p s h
  | removeDispatched p =>
    exact removeDispatched_keep leaseZero_fall p s ⟨h.record, h.held, h.release, h.attention, h.unbound⟩
  | reset =>
    have hz := (leaseZeroLaw_iff _).mp leaseZeroLaw_reset
    exact ⟨hz.record, hz.held, hz.release, hz.attention, hz.unbound⟩
  | _ => exact ⟨h.record, h.held, h.release, h.attention, h.unbound⟩

/-! ### Records with their timers -/

/-- A property of every record and its timer, after one record and its timer are replaced. -/
theorem forall_timed_of_set {s t : State} {l : LeaseId} {r : Lease} {τ : PeriodTimer} {P : Lease → PeriodTimer → Prop}
    (h : ∀ l', P (s.lease l') (s.timer l')) (hl : t.leases = s.leases.set l.val r) (ht : t.timers = s.timers.set l.val τ)
    (own : P r τ) (l' : LeaseId) : P (t.lease l') (t.timer l') := by
  rw [lease_of_set s hl, timer_of_set s ht]
  split
  · exact own
  · exact h l'

theorem forall_timed_of_record {s t : State} {l : LeaseId} {r : Lease} {P : Lease → PeriodTimer → Prop}
    (h : ∀ l', P (s.lease l') (s.timer l')) (hl : t.leases = s.leases.set l.val r) (ht : t.timers = s.timers)
    (own : P (s.lease l) (s.timer l) → P r (s.timer l)) : ∀ l', P (t.lease l') (t.timer l') :=
  forall_timed_of_set h hl (ht.trans (set_timer_self s l).symm) (own (h l))

/-- The timer of a lease after a fall of its outstanding. -/
def PeriodTimer.afterFall (r : Lease) (t : PeriodTimer) : PeriodTimer :=
  if r.state = .draining ∧ r.outstanding = 1 then t.drained else t

theorem forall_timed_fall {P : Lease → PeriodTimer → Prop} (own : ∀ r t, P r t → P r.fallen (t.afterFall r)) (l : LeaseId)
    (s : State) (h : ∀ l', P (s.lease l') (s.timer l')) :
    ∀ l', P ((fallOutstanding l s).lease l') ((fallOutstanding l s).timer l') := by
  refine forall_timed_of_set (l := l) h (fallOutstanding_leases s l) ?_ (own _ _ (h l))
  rw [fallOutstanding_timers, PeriodTimer.afterFall]
  split
  · rfl
  · exact (set_timer_self s l).symm

/-! ### Periods (R27, R28) -/

/-- The period law of one record and its timer. -/
def Lease.PeriodOk (r : Lease) (t : PeriodTimer) : Prop := r.k ≤ 12 ∧ t.count < periodLength r.k

theorem periodLength_pos (k : Nat) : 0 < periodLength k := Nat.mul_pos (by decide) (Nat.two_pow_pos k)

theorem Lease.PeriodOk.fallen (r : Lease) (t : PeriodTimer) (h : r.PeriodOk t) : r.fallen.PeriodOk (t.afterFall r) := by
  unfold Lease.fallen PeriodTimer.afterFall
  by_cases draining : r.state = .draining ∧ r.outstanding = 1
  · rw [if_neg (by omega), if_pos draining, if_pos draining]
    exact ⟨Nat.zero_le _, periodLength_pos _⟩
  · rw [if_neg draining, if_neg draining]
    split <;> exact h

theorem Lease.PeriodOk.afterDrainStart {r : Lease} {t : PeriodTimer} (h : r.PeriodOk t) (cause : DrainCause) (held : Nat) :
    (r.afterDrainStart cause held).PeriodOk
      { t with count := if r.outstanding = 0 then 0 else t.count, running := false, raised := 0 } := by
  unfold Lease.afterDrainStart
  by_cases none : r.outstanding = 0
  · rw [if_pos none, if_pos none]
    exact ⟨Nat.zero_le _, periodLength_pos _⟩
  · rw [if_neg none, if_neg none]
    exact h

theorem periodLaw_leaseChange {s t : State} (c : LeaseChange s t) (h : PeriodLaw s) : PeriodLaw t := by
  cases c with
  | timers v follows => exact fun l => ⟨(h l).1, (follows l).count (h l).2⟩
  | adjust l r adjusts =>
    refine forall_timed_of_record (P := Lease.PeriodOk) h rfl rfl fun ok => ?_
    unfold Lease.PeriodOk
    rw [adjusts.k]
    exact ok
  | reasons l => exact forall_timed_of_record (P := Lease.PeriodOk) (l := l) h rfl rfl fun ok => ok
  | resize l p =>
    obtain ⟨-, -, -, -, -, -, k, -⟩ :=
      (s.lease l).resize_unread p.budget p.carryLimit p.holdLimit p.watchThreshold p.reviewSpan p.curbLength
    refine forall_timed_of_record (P := Lease.PeriodOk) h rfl rfl fun ok => ?_
    unfold Lease.PeriodOk
    rw [k]
    exact ok
  | opening l c f p _ _ _ checked =>
    exact forall_timed_of_set (P := Lease.PeriodOk) (l := l) h rfl rfl ⟨(checkOpen_ranges checked).1, periodLength_pos _⟩
  | drain l cause =>
    exact forall_timed_of_set (P := Lease.PeriodOk) (l := l) h rfl rfl (Lease.PeriodOk.afterDrainStart (h l) _ _)
  | rebind p u b =>
    intro l
    rw [lease_rebindSlot]
    exact h l
  | _ => exact h

theorem periodLaw_fall (l : LeaseId) (s : State) (h : PeriodLaw s) : PeriodLaw (fallOutstanding l s) :=
  forall_timed_fall (P := Lease.PeriodOk) Lease.PeriodOk.fallen l s h

theorem periodLaw_change {s t : State} (c : Change s t) (h : PeriodLaw s) : PeriodLaw t := by
  cases c with
  | lease c => exact periodLaw_leaseChange c h
  | enqueue q e => exact forall_timed_of_record (P := Lease.PeriodOk) (l := e.lease) h rfl rfl fun ok => ok
  | enqueueEngine e => exact forall_timed_of_record (P := Lease.PeriodOk) (l := e.lease) h rfl rfl fun ok => ok
  | joinHeld p u l => exact forall_timed_of_record (P := Lease.PeriodOk) (l := l) h rfl rfl fun ok => ok
  | leaveHeld l => exact forall_timed_of_record (P := Lease.PeriodOk) (l := l) h rfl rfl fun ok => ok
  | endTag t f after => exact periodLaw_fall f.lease (s.setTag t after) h
  | endEngineTag t f after u e _ _ _ taken =>
    exact taken.keep (P := fun s => PeriodLaw s) periodLaw_leaseChange (periodLaw_fall f.lease (s.setTag t after) h)
  | removeHeld p =>
    intro l
    rw [lease_removeHeld]
    exact h l
  | removeDispatched p => exact removeDispatched_keep (P := fun s => PeriodLaw s) periodLaw_fall p s h
  | reset => exact periodLaw_reset
  | _ => exact h

/-! ### Lease states (R11, R14, R28, R29) -/

/-- A lease law and the laws that keep what works for a lease off FREE leases: stream map, outstanding and lease 0. -/
structure LeaseStates (s : State) : Prop where
  stream : StreamLaw s
  outstanding : OutstandingLaw s
  zero : LeaseZero s
  states : ∀ l : LeaseId, (s.lease l).StateOk (s.timer l)

/-- What stands for a lease keeps it from FREE. -/
theorem LeaseStates.not_free {s : State} (h : LeaseStates s) {l : LeaseId} (live : s.Live l) : (s.lease l).state ≠ .free := by
  rcases live with live | ⟨p, u, bound⟩ | ⟨t, f, issued, rfl⟩ | rfl
  · exact live
  · rcases (active_iff _).mp (h.stream p u l bound).2 with e | e <;> simp [e]
  · intro free
    have none : (s.lease f.lease).outstanding = 0 := by
      rw [((h.states f.lease).free free).1]
      rfl
    have work : 0 < s.tags.toList.countP (Tag.names f.lease) := by
      refine countP_toList_pos s.tags t ?_
      have was : s.tags[t.val] = .issued f := issued
      rw [was]
      exact decide_eq_true rfl
    have := h.outstanding f.lease
    rw [workOf_eq] at this
    omega
  · rw [h.zero.record.state]
    decide

/-- A record that is not FREE keeps its lease-state law under a change that leaves state, drain cause and work. -/
theorem Lease.StateOk.of_not_free {r r' : Lease} {t : PeriodTimer} (h : r.StateOk t) (not_free : r.state ≠ .free)
    (state : r'.state = r.state) (cause : r'.drainCause = r.drainCause) (work : r.outstanding ≤ r'.outstanding) :
    r'.StateOk t where
  free e := absurd (state.symm.trans e) not_free
  draining e := by
    obtain ⟨a, b, c, d⟩ := h.draining (state.symm.trans e)
    exact ⟨cause ▸ a, b.trans_le work, c, d⟩
  active e := by
    obtain ⟨a, b⟩ := h.active (state ▸ e)
    exact ⟨cause.trans a, b⟩

theorem Lease.StateOk.adjusts {r r' : Lease} {t : PeriodTimer} (h : r.StateOk t) (not_free : r.state ≠ .free)
    (a : r.Adjusts r') : r'.StateOk t := by
  rcases a.state with same | ⟨was, is⟩
  · exact h.of_not_free not_free same a.drainCause a.outstanding.ge
  · obtain ⟨cause, running⟩ := h.active ((active_iff r).mp was)
    rcases (active_iff r').mp is with e | e
    · exact ⟨fun e' => by simp [e] at e', fun e' => by simp [e] at e', fun _ => ⟨a.drainCause.trans cause, running⟩⟩
    · exact ⟨fun e' => by simp [e] at e', fun e' => by simp [e] at e', fun _ => ⟨a.drainCause.trans cause, running⟩⟩

theorem Lease.StateOk.follows {r : Lease} {t t' : PeriodTimer} {k : Nat} (h : r.StateOk t) (f : PeriodTimer.Follows k t t') :
    r.StateOk t' where
  free e := by
    obtain ⟨record, timer⟩ := h.free e
    exact ⟨record, (f.stopped (by rw [timer]) (by rw [timer])).trans timer⟩
  draining e := by
    obtain ⟨cause, work, running, raised⟩ := h.draining e
    rw [f.stopped running raised]
    exact ⟨cause, work, running, raised⟩
  active e := by
    obtain ⟨cause, running⟩ := h.active e
    exact ⟨cause, f.running.trans running⟩

theorem Lease.stateOk_freeRecord (notify reasons : ReasonSet) :
    (Lease.freeRecord notify reasons).StateOk { count := 0, running := false, raised := 0 } where
  free _ := ⟨rfl, rfl⟩
  draining e := by simp [Lease.freeRecord] at e
  active e := by simp [Lease.freeRecord] at e

theorem Lease.StateOk.reasons {r : Lease} {t : PeriodTimer} (h : r.StateOk t) (reasons : ReasonSet) :
    ({ r with reasons := reasons } : Lease).StateOk t where
  free e := by
    obtain ⟨record, timer⟩ := h.free e
    refine ⟨?_, timer⟩
    rw [record]
    rfl
  draining := h.draining
  active := h.active

/-- A fall drains a DRAINING lease at its last work, and else lowers outstanding (R19, R123). -/
theorem Lease.StateOk.fallen (r : Lease) (t : PeriodTimer) (h : r.StateOk t) : r.fallen.StateOk (t.afterFall r) := by
  unfold Lease.fallen PeriodTimer.afterFall
  by_cases none : r.outstanding = 0
  · rw [if_pos none, if_neg (by omega)]
    exact h
  · rw [if_neg none]
    by_cases last : r.state = .draining ∧ r.outstanding = 1
    · obtain ⟨-, -, running, raised⟩ := h.draining last.1
      have timer : t.drained = { count := 0, running := false, raised := 0 } := by
        unfold PeriodTimer.drained
        rw [raised]
      rw [if_pos last, if_pos last, timer]
      exact Lease.stateOk_freeRecord _ _
    · rw [if_neg last, if_neg last]
      refine ⟨fun free => ?_, fun draining => ?_, h.active⟩
      · have record := (h.free free).1
        rw [record] at none
        exact absurd rfl none
      · obtain ⟨cause, -, running, raised⟩ := h.draining draining
        have more : r.outstanding ≠ 1 := fun one => last ⟨draining, one⟩
        refine ⟨cause, ?_, running, raised⟩
        show 0 < r.outstanding - 1
        omega

theorem Lease.stateOk_afterDrainStart (r : Lease) (t : PeriodTimer) (cause : DrainCause) (held : Nat) :
    (r.afterDrainStart cause held).StateOk
      { t with count := if r.outstanding = 0 then 0 else t.count, running := false, raised := 0 } := by
  unfold Lease.afterDrainStart
  by_cases none : r.outstanding = 0
  · rw [if_pos none, if_pos none]
    exact Lease.stateOk_freeRecord _ _
  · rw [if_neg none, if_neg none]
    exact ⟨fun e => by simp [Lease.draining] at e, fun _ => ⟨by simp [Lease.draining], Nat.pos_of_ne_zero none, rfl, rfl⟩,
      fun e => by simp [Lease.draining] at e⟩

theorem Lease.state_ne_free_of_active {r : Lease} (h : r.active = true) : r.state ≠ .free := by
  rcases (active_iff r).mp h with e | e <;> simp [e]

/-- A binding touches the counts of OPEN and SUSPENDED leases alone. -/
theorem stateOk_rebindSlot {s : State} {p : PortId} {u : StreamTag} {b : Option LeaseId} (h : LeaseStates s)
    (bound : ∀ l : LeaseId, b = some l → l ≠ 0 ∧ (s.lease l).active = true) (l : LeaseId) :
    ((rebindSlot p u b s).lease l).StateOk (s.timer l) := by
  rw [lease_rebindSlot]
  by_cases free : (s.lease l).state = .free
  · have unnamed : s.slot p u ≠ some l := fun named => Lease.state_ne_free_of_active (h.stream p u l named).2 free
    have other : b ≠ some l := fun named => Lease.state_ne_free_of_active (bound l named).2 free
    rw [if_neg unnamed, if_neg other]
    exact h.states l
  · exact (h.states l).of_not_free free rfl rfl le_rfl

theorem leaseStates_leaseChange {s t : State} (c : LeaseChange s t) (h : LeaseStates s) : LeaseStates t := by
  refine ⟨streamLaw_leaseChange c h.stream, outstandingLaw_leaseChange c h.outstanding, leaseZero_leaseChange c h.zero, ?_⟩
  have states := h.states
  cases c with
  | timers v follows => exact fun l => (states l).follows (follows l)
  | adjust l r adjusts live =>
    exact forall_timed_of_record (P := Lease.StateOk) states rfl rfl fun ok => ok.adjusts (h.not_free live) adjusts
  | reasons l reasons => exact forall_timed_of_record (P := Lease.StateOk) states rfl rfl fun ok => ok.reasons reasons
  | resize l p active =>
    obtain ⟨state, -, -, -, outstanding, -, -, -, -, cause, -⟩ :=
      (s.lease l).resize_unread p.budget p.carryLimit p.holdLimit p.watchThreshold p.reviewSpan p.curbLength
    exact forall_timed_of_record (P := Lease.StateOk) states rfl rfl fun ok =>
      ok.of_not_free (Lease.state_ne_free_of_active active) state cause outstanding.ge
  | opening l c f p =>
    exact forall_timed_of_set (P := Lease.StateOk) (l := l) states rfl rfl
      ⟨fun e => by simp [Lease.opening] at e, fun e => by simp [Lease.opening] at e, fun _ => ⟨rfl, rfl⟩⟩
  | drain l cause =>
    exact forall_timed_of_set (P := Lease.StateOk) (l := l) states rfl rfl (Lease.stateOk_afterDrainStart _ _ _ _)
  | rebind p u b bound => exact fun l => stateOk_rebindSlot h bound l
  | _ => exact states

theorem stateOk_fall (l : LeaseId) (s : State) (h : ∀ l, (s.lease l).StateOk (s.timer l)) :
    ∀ l', ((fallOutstanding l s).lease l').StateOk ((fallOutstanding l s).timer l') :=
  forall_timed_fall (P := Lease.StateOk) Lease.StateOk.fallen l s h

theorem leaseStates_endTag {s : State} {t : TagId} {f : IssuedTag} {after : Tag} (issued : s.tag t = .issued f)
    (ended : after.ended = true) (h : LeaseStates s) : LeaseStates (endTag t f after s) where
  stream := streamLaw_fall f.lease (s.setTag t after) h.stream
  outstanding := outstandingLaw_endTag issued ended h.outstanding
  zero := leaseZero_fall f.lease (s.setTag t after)
    ⟨h.zero.record, h.zero.held, h.zero.release, h.zero.attention, h.zero.unbound⟩
  states := stateOk_fall f.lease (s.setTag t after) h.states

theorem leaseStates_change {s t : State} (c : Change s t) (h : LeaseStates s) : LeaseStates t := by
  refine ⟨streamLaw_change c h.stream, outstandingLaw_change c h.outstanding, leaseZero_change c h.zero, ?_⟩
  have states := h.states
  cases c with
  | lease c => exact (leaseStates_leaseChange c h).states
  | enqueue q e _ live =>
    exact forall_timed_of_record (P := Lease.StateOk) (l := e.lease) states rfl rfl fun ok =>
      ok.of_not_free (h.not_free live) rfl rfl (Nat.le_succ _)
  | enqueueEngine e step stopPending _ _ zero =>
    exact forall_timed_of_record (P := Lease.StateOk) (l := e.lease) states rfl rfl fun ok =>
      ok.of_not_free (h.not_free (.inr (.inr (.inr zero)))) rfl rfl (Nat.le_succ _)
  | joinHeld p u l e bound =>
    exact forall_timed_of_record (P := Lease.StateOk) (l := l) states rfl rfl fun ok =>
      ok.of_not_free (h.not_free (.inr (.inl ⟨p, u, bound⟩))) rfl rfl le_rfl
  | leaveHeld l _ opened =>
    exact forall_timed_of_record (P := Lease.StateOk) (l := l) states rfl rfl fun ok =>
      ok.of_not_free (by simp [opened]) rfl rfl le_rfl
  | endTag t f after issued _ ended => exact (leaseStates_endTag issued ended h).states
  | endEngineTag t f after u e issued _ ended taken =>
    exact (taken.keep leaseStates_leaseChange (leaseStates_endTag issued ended h)).states
  | removeHeld p =>
    intro l
    rw [lease_removeHeld]
    by_cases free : (s.lease l).state = .free
    · obtain ⟨record, timer⟩ := (states l).free free
      rw [record]
      show ((Lease.freeRecord _ _).unhold _).StateOk (s.timer l)
      rw [timer]
      simp only [Lease.unhold, Lease.freeRecord, Nat.zero_sub]
      exact Lease.stateOk_freeRecord _ _
    · exact (states l).of_not_free free rfl rfl le_rfl
  | removeDispatched p =>
    exact removeDispatched_keep (P := fun s => ∀ l, (s.lease l).StateOk (s.timer l)) stateOk_fall p s states
  | reset => exact (leaseStateLaw_iff _).mp leaseStateLaw_reset
  | _ => exact states

/-! ### All the laws -/

theorem SafeState.leaseStates {s : State} (h : SafeState s) : LeaseStates s :=
  ⟨h.stream, h.outstanding, (leaseZeroLaw_iff s).mp h.leaseZero, (leaseStateLaw_iff s).mp h.leaseState⟩

/-- Every change keeps every law. -/
theorem safeState_change {s t : State} (c : Change s t) (h : SafeState s) : SafeState t where
  attention := attentionLaw_change c h.attention
  credit := creditLaw_change c h.credit
  stream := streamLaw_change c h.stream
  boundSlot := (streamMapLaw_change c ⟨h.stream, h.boundSlot⟩).2
  hold := (holdStreamLaw_change c ⟨h.hold, h.stream⟩).1
  outstanding := outstandingLaw_change c h.outstanding
  queue := queueLaw_change c h.queue
  committed := committedLaw_change c h.committed
  leaseZero := (leaseZeroLaw_iff t).mpr (leaseZero_change c ((leaseZeroLaw_iff s).mp h.leaseZero))
  engine := engineLaw_change c h.engine
  engineRequest := engineRequestLaw_change c h.engineRequest
  link := linkLaw_change c h.link
  port := portLaw_change c h.port
  leaseState := (leaseStateLaw_iff t).mpr (leaseStates_change c h.leaseStates).states
  period := periodLaw_change c h.period
  regime := regimeLaw_change c h.regime
  release := releaseLaw_change c h.release

end Sys2Proof.Machine
end

section
/-!
PROOF. The shared operations and the commands of the ring as changes of the lease tables.
-/

namespace Sys2Proof.Machine

open Relation (ReflTransGen)

/-! ### Sequences of changes -/

theorem LeaseChange.changes {s t : State} (c : LeaseChange s t) : LeaseChanges s t := .single c

theorem LeaseChanges.toChanges {s t : State} (c : LeaseChanges s t) : Changes s t :=
  Relation.ReflTransGen.mono (fun _ _ h => Change.lease h) _ _ c

theorem Change.changes {s t : State} (c : Change s t) : Changes s t := .single c

/-- A change of fields that no law speaks of. -/
theorem LeaseChange.of_quiet {s t : State} (h : t = { s with
    timebase := t.timebase
    lastServed := t.lastServed
    readyLevel := t.readyLevel
    responseTimeout := t.responseTimeout
    intStatus := t.intStatus
    intEnable := t.intEnable
    sent := t.sent
    memoryOut := t.memoryOut
    freeIndex := t.freeIndex
    delayed := t.delayed
    pending := t.pending }) : LeaseChanges s t := by
  rw [h]
  exact LeaseChange.changes (.quiet ..)

/-- A step repeated along a list is a sequence of changes when each step is. -/
theorem foldl_changes {α : Type} {f : State → α → State} (h : ∀ s a, Changes s (f s a)) (xs : List α) (s : State) :
    Changes s (xs.foldl f s) := by
  induction xs generalizing s with
  | nil => exact .refl
  | cons a rest ih => exact (h s a).trans (ih (f s a))

/-! ### Triggers (R72, R103, R112, R114) -/

theorem Port.ok_hand {u : Port} (h : u.Ok) : u.hand.Ok := h

theorem changes_handTrigger (s : State) : LeaseChanges s (handTrigger s) := by
  have ports : LeaseChange s { s with ports := tabulate fun p => (s.port p).hand } :=
    .ports s _ fun p ok => by
      rw [getElem_tabulate]
      exact Port.ok_hand ok
  have releases : LeaseChange { s with ports := tabulate fun p => (s.port p).hand }
      { s with ports := tabulate fun p => (s.port p).hand, releases := tabulate fun l => (s.release l).retrigger } :=
    .releases _ _ fun l _ idle => by
      have was : s.release l = .idle := idle
      rw [getElem_tabulate, was]
      rfl
  exact (ports.changes.trans releases.changes).trans (LeaseChange.retrigger _).changes

theorem changes_handTriggerIf (b : Bool) (s : State) : LeaseChanges s (handTriggerIf b s) := by
  cases b
  · exact .refl
  · exact changes_handTrigger s

theorem change_setRelease (s : State) (l : LeaseId) (r : ReleaseState) (h : r ≠ .idle → s.holdQueue l ≠ []) :
    LeaseChanges s (s.setRelease l r) := by
  refine LeaseChange.changes (.releases s _ fun l' empty idle => ?_)
  have now := release_setRelease s l l' r
  rw [show (s.releases.set l.val r)[l'.val] = (s.setRelease l r).release l' from rfl, now]
  split
  · rename_i e
    by_contra running
    exact h running (e ▸ empty)
  · exact idle

theorem changes_releaseTrigger (l : LeaseId) (s : State) : LeaseChanges s (releaseTrigger l s) := by
  unfold releaseTrigger
  split
  · rename_i h
    exact change_setRelease s l .running fun _ => h.2
  · exact .refl

/-! ### Reasons and counts (R8, R10) -/

theorem changes_raiseReason (l : LeaseId) (why : Reason) (s : State) : LeaseChanges s (raiseReason l why s) := by
  rw [raiseReason_eq]
  have joined : LeaseChange s { s.setLease l { s.lease l with reasons := (s.lease l).raised why } with
      attention := s.attentionAfter l ((s.lease l).raised why) } := by
    refine .reasons s l _ _ (fun l' other => attentionAfter_ne s (Ne.symm other) _) (fun was => ?_) fun silent none => ?_
    · have grow : (s.lease l).raised why = 0 → (s.lease l).reasons = 0 := fun h => ((s.lease l).raised_eq_zero why).mp h |>.1
      rw [attentionAfter_self, was]
      by_cases h0 : (s.lease l).reasons = 0 <;> by_cases h1 : (s.lease l).raised why = 0 <;> simp_all
    · rw [Lease.raised_eq_zero, silent]
      exact ⟨none, BitVec.zero_and⟩
  exact joined.changes.trans (LeaseChange.of_quiet rfl)

/-- An adjustment of a record that keeps its state. -/
theorem changes_adjust {s : State} {l : LeaseId} {r : Lease} (adjusts : (s.lease l).Adjusts r) (live : s.Live l)
    (state : r.state = (s.lease l).state) : LeaseChanges s (s.setLease l r) :=
  LeaseChange.changes (.adjust s l r adjusts live fun zero opened => by
    subst zero
    exact state.trans opened)

/-- A change of the counts that are a record's own. -/
theorem changes_counts (s : State) {l : LeaseId} (live : s.Live l) (periods held refused faults overdrawn : Nat) :
    LeaseChanges s (s.setLease l { s.lease l with
      periodsRemaining := periods
      heldTotal := held
      refusedCount := refused
      faultCount := faults
      overdrawBeats := overdrawn }) :=
  changes_adjust (Lease.adjusts_counts (s.lease l) periods held refused faults overdrawn) live rfl

theorem changes_countRefusals (s : State) {l : LeaseId} (live : s.Live l) (n : Nat) :
    LeaseChanges s (s.setLease l ((s.lease l).countRefusals n)) :=
  changes_counts s live (s.lease l).periodsRemaining (s.lease l).heldTotal (satAdd32 (s.lease l).refusedCount n)
    (s.lease l).faultCount (s.lease l).overdrawBeats

theorem changes_countFault (s : State) {l : LeaseId} (live : s.Live l) : LeaseChanges s (countFault l s) :=
  (changes_counts s live (s.lease l).periodsRemaining (s.lease l).heldTotal (s.lease l).refusedCount
    (satAdd32 (s.lease l).faultCount 1) (s.lease l).overdrawBeats).trans (changes_raiseReason l .fault _)

/-! ### Drain start and the period end (R16, R32) -/

theorem changes_drainStart (s : State) {l : LeaseId} (cause : DrainCause) (active : (s.lease l).active = true)
    (zero : l = 0 → (s.lease 0).term ≠ 0) : LeaseChanges s (drainStart l cause s) := by
  rw [drainStart_eq]
  exact (LeaseChange.changes (.drain s l cause active zero)).trans (changes_handTriggerIf _ _)

theorem live_of_active {s : State} {l : LeaseId} (h : (s.lease l).active = true) : s.Live l :=
  .inl (Lease.state_ne_free_of_active h)

theorem changes_beginPeriod (s : State) {l : LeaseId} (active : (s.lease l).active = true) :
    LeaseChanges s (beginPeriod l s) := by
  have period : LeaseChanges s (s.setLease l (s.lease l).newPeriod) := by
    refine changes_adjust (s.lease l).adjusts_newPeriod (live_of_active active) ?_
    unfold Lease.newPeriod
    cases (s.lease l).cls with
    | guaranteed => rfl
    | capped => rfl
    | shared => exact Lease.state_regimeStep _
  unfold beginPeriod
  dsimp only
  refine (period.trans ?_).trans ((changes_releaseTrigger l _).trans (changes_handTrigger _))
  split
  · exact changes_raiseReason l .curbed _
  · exact .refl

theorem changes_takePeriodEnd (s : State) {l : LeaseId} (active : (s.lease l).active = true) :
    LeaseChanges s (takePeriodEnd l s) := by
  unfold takePeriodEnd
  split
  · exact changes_beginPeriod s active
  · rename_i termed
    have counted : LeaseChanges s (countPeriod l s) :=
      changes_counts s (live_of_active active) ((s.lease l).periodsRemaining - 1) (s.lease l).heldTotal
        (s.lease l).refusedCount (s.lease l).faultCount (s.lease l).overdrawBeats
    have record : (countPeriod l s).lease l = { s.lease l with periodsRemaining := (s.lease l).periodsRemaining - 1 } :=
      lease_setLease_self s l _
    have still : ((countPeriod l s).lease l).active = true := by
      rw [record]
      exact active
    refine counted.trans ?_
    dsimp only
    split
    · refine changes_drainStart _ .expired still fun zero => ?_
      subst zero
      rw [record]
      exact termed
    · exact changes_beginPeriod _ still

/-! ### OPEN_LEASE and RESIZE_LEASE (R159 to R164) -/

/-- OPEN_LEASE opens a FREE lease other than lease 0 (R159). -/
theorem chooseLease_ok {s : State} {field : Byte} {l : LeaseId} (h : chooseLease s field = .ok l) :
    l ≠ 0 ∧ (s.lease l).state = .free := by
  unfold chooseLease at h
  split at h
  · split at h
    · rename_i found
      obtain rfl : _ = l := by simpa using h
      have eligible := List.find?_some found
      simp only [Lease.openable, Bool.and_eq_true, decide_eq_true_eq] at eligible
      exact ⟨eligible.1, eligible.2.1⟩
    · exact absurd h (by simp)
  · dsimp only at h
    split at h
    · exact absurd h (by simp)
    · rename_i other
      split at h
      · rename_i free
        split at h
        · obtain rfl : _ = l := by simpa using h
          exact ⟨other, free⟩
        · exact absurd h (by simp)
      · exact absurd h (by simp)
      · exact absurd h (by simp)
      · exact absurd h (by simp)

theorem budget_openParams (r : Beat) : (openParams r).budget ≤ 65535 := Nat.le_of_lt_succ (halfAt r 8).isLt

theorem budget_resizeParams (r : Beat) : (resizeParams r).budget ≤ 65535 := Nat.le_of_lt_succ (halfAt r 8).isLt

theorem changes_takeOpenLease (r : Beat) (s : State) : LeaseChanges s (takeOpenLease r s).state := by
  unfold takeOpenLease
  split
  · exact .refl
  · split
    · exact .refl
    · rename_i l chosen
      obtain ⟨other, free⟩ := chooseLease_ok chosen
      split
      · exact .refl
      · rename_i c f checked
        split
        · exact .refl
        · rename_i fits
          show LeaseChanges s (openLeaseAt l c f (openParams r) s)
          rw [openLeaseAt_eq]
          exact LeaseChange.changes (.opening s l c f _ other free (budget_openParams r) checked fun guaranteed =>
            Nat.le_of_not_lt fun above => fits ⟨guaranteed, above⟩)

theorem resizeLeaseAt_eq (l : LeaseId) (p : ResizeParams) (s : State) : resizeLeaseAt l p s =
    handTriggerIf (decide ((s.lease l).budget < p.budget) || decide ((s.lease l).holdLimit < p.holdLimit))
      (if (s.lease l).budget < p.budget then releaseTrigger l (resizeRecord l p s) else resizeRecord l p s) := by
  have record : (if (s.lease l).cls = .guaranteed then s.setCommitted (committedWith s l p.budget) else s).setLease l
      ((s.lease l).resize p.budget p.carryLimit p.holdLimit p.watchThreshold p.reviewSpan p.curbLength) =
        resizeRecord l p s := by
    unfold resizeRecord
    split <;> rfl
  unfold resizeLeaseAt
  dsimp only
  rw [record]

theorem changes_takeResizeLease (r : Beat) (s : State) : LeaseChanges s (takeResizeLease r s).state := by
  unfold takeResizeLease
  split
  · exact .refl
  · dsimp only
    split
    · exact .refl
    · rename_i active
      split
      · exact .refl
      · rename_i ranges
        split
        · exact .refl
        · rename_i fits
          show LeaseChanges s (resizeLeaseAt (recordLease r) (resizeParams r) s)
          rw [resizeLeaseAt_eq]
          have record : LeaseChanges s (resizeRecord (recordLease r) (resizeParams r) s) :=
            LeaseChange.changes (.resize s _ _ (by simpa using active) (budget_resizeParams r) (by simpa using ranges)
              fun guaranteed grows => Nat.le_of_not_lt fun above => fits ⟨guaranteed, grows, above⟩)
          refine (record.trans ?_).trans (changes_handTriggerIf _ _)
          split
          · exact changes_releaseTrigger _ _
          · exact .refl

/-! ### RENEW_LEASE, SUSPEND_LEASE, RESUME_LEASE, RETIRE_LEASE (R165 to R169) -/

theorem changes_takeRenewLease (r : Beat) (s : State) : LeaseChanges s (takeRenewLease r s).state := by
  have renewed : (s.lease (recordLease r)).state ≠ .free → LeaseChanges s (s.setLease (recordLease r) { s.lease (recordLease r) with
      periodsRemaining := renewedPeriods (s.lease (recordLease r)) (renewPeriods r) }) := fun open_or_suspended =>
    changes_counts s (.inl open_or_suspended) _ (s.lease (recordLease r)).heldTotal (s.lease (recordLease r)).refusedCount
      (s.lease (recordLease r)).faultCount (s.lease (recordLease r)).overdrawBeats
  unfold takeRenewLease
  split
  · exact .refl
  · dsimp only
    split
    · exact .refl
    · exact .refl
    · rename_i opened
      split
      · exact .refl
      · exact renewed (by simp [opened])
    · rename_i suspended
      split
      · exact .refl
      · exact renewed (by simp [suspended])

theorem changes_takeSuspendLease (r : Beat) (s : State) : LeaseChanges s (takeSuspendLease r s).state := by
  unfold takeSuspendLease
  split
  · exact .refl
  · dsimp only
    split
    · exact .refl
    · rename_i other
      split
      · rename_i opened
        exact LeaseChange.changes (.adjust s _ _
          (Lease.adjusts_state _ ((active_iff _).mpr (.inl opened)) (.inr rfl)) (.inl (by simp [opened]))
          fun zero => absurd zero other)
      · exact .refl
      · exact .refl
      · exact .refl

theorem changes_resumeLeaseAt (s : State) {l : LeaseId} (suspended : (s.lease l).state = .suspended) :
    LeaseChanges s (resumeLeaseAt l s) := by
  have resumed : LeaseChanges s (s.setLease l { s.lease l with state := .opened }) :=
    LeaseChange.changes (.adjust s _ _
      (Lease.adjusts_state _ ((active_iff _).mpr (.inr suspended)) (.inl rfl)) (.inl (by simp [suspended])) fun _ _ => rfl)
  exact resumed.trans ((changes_releaseTrigger l _).trans (changes_handTrigger _))

theorem changes_takeResumeLease (r : Beat) (s : State) : LeaseChanges s (takeResumeLease r s).state := by
  unfold takeResumeLease
  split
  · exact .refl
  · dsimp only
    split
    · exact changes_resumeLeaseAt s ‹_›
    · exact .refl
    · exact .refl
    · exact .refl

theorem changes_takeRetireLease (r : Beat) (s : State) : LeaseChanges s (takeRetireLease r s).state := by
  unfold takeRetireLease
  split
  · exact .refl
  · dsimp only
    split
    · exact .refl
    · rename_i other
      split
      · exact changes_drainStart s .retired ‹_› fun zero => absurd zero other
      · exact .refl

/-! ### BIND_STREAM and UNBIND_STREAM (R85, R86) -/

/-- Lease tables that agree record by record are the same. -/
theorem leases_ext {v w : Vector Lease 64} (h : ∀ l : LeaseId, v[l.val] = w[l.val]) : v = w :=
  Vector.ext fun i hi => h ⟨i, hi⟩

theorem lease_dropSlot (b : Option LeaseId) (s : State) (l : LeaseId) : (dropSlot b s).lease l =
    { s.lease l with boundSlots := (s.lease l).boundSlots - (if b = some l then 1 else 0) } := by
  unfold dropSlot
  split
  · rename_i l'
    rw [lease_setLease]
    by_cases e : l' = l
    · rw [if_pos e, if_pos (congrArg some e), e]
    · rw [if_neg e, if_neg fun e' => e (Option.some.inj e')]
      rfl
  · rfl

theorem dropSlot_fixed (b : Option LeaseId) (s : State) : dropSlot b s = { s with leases := (dropSlot b s).leases } := by
  unfold dropSlot
  split <;> rfl

theorem bindSlot_eq (p : PortId) (t : StreamTag) (l : LeaseId) (s : State) :
    bindSlot p t l s = if s.slot p t = some l then s else handTrigger (rebindSlot p t (some l) s) := by
  unfold bindSlot
  split
  · rfl
  · rename_i other
    dsimp only
    congr 1
    have leases : ((dropSlot (s.slot p t) s).setLease l { (dropSlot (s.slot p t) s).lease l with
        boundSlots := ((dropSlot (s.slot p t) s).lease l).boundSlots + 1 }).leases = (rebindSlot p t (some l) s).leases := by
      refine leases_ext fun l' => ?_
      show State.lease _ l' = State.lease _ l'
      rw [lease_setLease, lease_dropSlot, lease_dropSlot, lease_rebindSlot]
      by_cases e : l = l'
      · subst e
        simp [other]
      · simp [e]
    rw [dropSlot_fixed] at leases ⊢
    exact congrArg (fun v => { s with leases := v, streams := s.streams.set (slotIndex p t).val (some l) }) leases

theorem unbindSlot_eq (p : PortId) (t : StreamTag) (s : State) :
    unbindSlot p t s = if s.slot p t = none then s else handTrigger (rebindSlot p t none s) := by
  unfold unbindSlot
  split
  · rename_i unbound
    rw [if_pos unbound]
  · rename_i l bound
    rw [if_neg (by simp [bound])]
    congr 1
    have leases : (dropSlot (some l) s).leases = (rebindSlot p t none s).leases := by
      refine leases_ext fun l' => ?_
      show State.lease _ l' = State.lease _ l'
      rw [lease_dropSlot, lease_rebindSlot, bound]
      simp
    rw [dropSlot_fixed]
    exact congrArg (fun v => { s with leases := v, streams := s.streams.set (slotIndex p t).val none }) leases

theorem changes_takeBindStream (r : Beat) (s : State) : LeaseChanges s (takeBindStream r s).state := by
  unfold takeBindStream
  split
  · exact .refl
  · dsimp only
    split
    · rename_i h
      split
      · exact .refl
      · rename_i other
        split
        · rename_i active
          show LeaseChanges s (bindSlot ⟨bindingPort r, h.1⟩ ⟨bindingTag r, h.2⟩ (recordLease r) s)
          rw [bindSlot_eq]
          split
          · exact .refl
          · refine (LeaseChange.changes (.rebind s _ _ _ fun l bound => ?_)).trans (changes_handTrigger _)
            obtain rfl := Option.some.inj bound
            exact ⟨other, active⟩
        · exact .refl
    · exact .refl

theorem changes_takeUnbindStream (r : Beat) (s : State) : LeaseChanges s (takeUnbindStream r s).state := by
  unfold takeUnbindStream
  split
  · exact .refl
  · split
    · rename_i h
      show LeaseChanges s (unbindSlot ⟨bindingPort r, h.1⟩ ⟨bindingTag r, h.2⟩ s)
      rw [unbindSlot_eq]
      split
      · exact .refl
      · exact (LeaseChange.changes (.rebind s _ _ none fun l bound => absurd bound (by simp))).trans (changes_handTrigger _)
    · exact .refl

/-! ### ACK_ATTENTION, SET_CAPACITY and the commands that change nothing (R148, R173, R175 to R177) -/

theorem getLsbD_leaveAttention (l l' : LeaseId) (s : State) :
    (leaveAttention l s).attention.getLsbD l'.val = (s.attention.getLsbD l'.val && decide (l ≠ l')) := by
  have bit := getLsbD_attentionBit l l'
  rw [BitVec.getLsbD_eq_getElem l'.isLt] at bit
  simp [bit]

theorem changes_acknowledge (s : State) (l : LeaseId) (mask : ReasonSet) : LeaseChanges s (acknowledge l mask s) := by
  unfold acknowledge
  dsimp only
  split
  · rename_i empty
    refine LeaseChange.changes (.reasons s l _ _ (fun l' other => ?_) (fun _ => ?_) fun _ none => ?_)
    · have leave := getLsbD_leaveAttention l l' s
      rw [decide_eq_true (Ne.symm other), Bool.and_true] at leave
      exact leave
    · have leave := getLsbD_leaveAttention l l s
      rw [decide_eq_false (not_not_intro rfl), Bool.and_false] at leave
      rw [empty]
      exact leave
    · rw [none]
      exact BitVec.zero_and
  · rename_i left
    refine LeaseChange.changes (.reasons s l _ _ (fun _ _ => rfl) (fun was => ?_) fun _ none => ?_)
    · have before : (s.lease l).reasons ≠ 0 := fun e => left (by rw [e]; exact BitVec.zero_and)
      rw [was, decide_eq_true before, decide_eq_true left]
    · rw [none]
      exact BitVec.zero_and

theorem changes_takeAckAttention (r : Beat) (s : State) : LeaseChanges s (takeAckAttention r s).state := by
  unfold takeAckAttention
  split
  · exact .refl
  · exact changes_acknowledge s _ _

theorem changes_takeSetCapacity (r : Beat) (s : State) : LeaseChanges s (takeSetCapacity r s).state := by
  unfold takeSetCapacity
  split
  · exact .refl
  · split
    · exact LeaseChange.changes (.capacity s _ ‹_›)
    · exact .refl

theorem state_takeNop (r : Beat) (s : State) : (takeNop r s).state = s := by
  unfold takeNop
  split <;> rfl

theorem state_takeUnknown (r : Beat) (s : State) : (takeUnknown r s).state = s := by
  unfold takeUnknown
  split <;> rfl

theorem state_takeQueryLease (r : Beat) (s : State) : (takeQueryLease r s).state = s := by
  unfold takeQueryLease
  split
  · rfl
  · dsimp only
    split <;> rfl

theorem changes_takeNop (r : Beat) (s : State) : LeaseChanges s (takeNop r s).state := by
  rw [state_takeNop]

theorem changes_takeUnknown (r : Beat) (s : State) : LeaseChanges s (takeUnknown r s).state := by
  rw [state_takeUnknown]

theorem changes_takeQueryLease (r : Beat) (s : State) : LeaseChanges s (takeQueryLease r s).state := by
  rw [state_takeQueryLease]

theorem changes_takeRecord (r : Beat) (s : State) : LeaseChanges s (takeRecord r s).state := by
  unfold takeRecord
  split
  · exact changes_takeNop r s
  · exact changes_takeOpenLease r s
  · exact changes_takeResizeLease r s
  · exact changes_takeRenewLease r s
  · exact changes_takeSuspendLease r s
  · exact changes_takeResumeLease r s
  · exact changes_takeRetireLease r s
  · exact changes_takeBindStream r s
  · exact changes_takeUnbindStream r s
  · exact changes_takeQueryLease r s
  · exact changes_takeAckAttention r s
  · exact changes_takeSetCapacity r s
  · exact changes_takeUnknown r s

end Sys2Proof.Machine
end

section
/-!
PROOF. The engine, the answers of the memory side and the issue as sequences of changes.
-/

namespace Sys2Proof.Machine

theorem LeaseChange.toChanges {s t : State} (c : LeaseChange s t) : Changes s t := (Change.lease c).changes

/-- A change of fields that no law speaks of. -/
theorem Change.of_quiet {s t : State} (h : t = { s with
    timebase := t.timebase
    lastServed := t.lastServed
    readyLevel := t.readyLevel
    responseTimeout := t.responseTimeout
    intStatus := t.intStatus
    intEnable := t.intEnable
    sent := t.sent
    memoryOut := t.memoryOut
    freeIndex := t.freeIndex
    delayed := t.delayed
    pending := t.pending }) : Changes s t := (LeaseChange.of_quiet h).toChanges

/-- Whatever state an outcome goes on to is reached by changes. -/
def Leads (s : State) (o : Host.Outcome State Fault Refusal) : Prop := ∀ t : State, o = .next t → Changes s t

theorem Leads.next {s t : State} (h : Changes s t) : Leads s (.next t) := by
  intro u e
  cases e
  exact h

theorem Leads.stays (s : State) : Leads s (.next s) := .next .refl

theorem Leads.ite {s : State} {p : Prop} [Decidable p] {o o' : Host.Outcome State Fault Refusal} (yes : p → Leads s o)
    (no : ¬ p → Leads s o') : Leads s (if p then o else o') := by
  split
  · exact yes ‹_›
  · exact no ‹_›

/-! ### The engine by itself -/

@[simp] theorem Engine.retrigger_retrigger (e : Engine) : e.retrigger.retrigger = e.retrigger := by
  simp [Engine.retrigger]

/-- Commands and period ends leave the engine alone but for a trigger. -/
theorem engine_leaseChanges {s t : State} (c : LeaseChanges s t) :
    t.engine = s.engine ∨ t.engine = s.engine.retrigger := by
  refine c.keep (P := fun t => t.engine = s.engine ∨ t.engine = s.engine.retrigger) (fun step was => ?_) (.inl rfl)
  cases step with
  | retrigger =>
    refine .inr ?_
    rcases was with same | triggered
    · exact congrArg Engine.retrigger same
    · exact (congrArg Engine.retrigger triggered).trans (Engine.retrigger_retrigger _)
  | _ => exact was

theorem validRingSize_pos {n : Nat} (h : validRingSize n = true) : 0 < n := by
  simp only [validRingSize, List.contains_eq_mem, List.mem_cons, List.not_mem_nil, or_false, decide_eq_true_eq] at h
  omega

theorem Engine.next_lt {e : Engine} (h : validRingSize e.ringSize = true) (i : Nat) : e.next i < e.ringSize :=
  Nat.mod_lt _ (validRingSize_pos h)

/-- A command is pending exactly when the submit index has left the fetch index (R142). -/
theorem Engine.hasPending_iff {e : Engine} (_ : e.submit < e.ringSize) (fetch : e.fetch < e.ringSize) :
    e.hasPending = true ↔ e.submit ≠ e.fetch := by
  unfold Engine.hasPending Engine.pendingCount
  rw [decide_eq_true_eq]
  split <;> omega

/-- The engine goes on from a fetch to a later step (R147). -/
theorem Engine.ok_executed {e e' : Engine} {step : EngineStep} {phase phase' : RequestPhase} {stopPending stopPending' : Bool}
    (fetching : e.state = .busy .fetch phase stopPending) (same : e' = e ∨ e' = e.retrigger) (later : step ≠ .fetch)
    (h : e.Ok) : Engine.Ok { e' with
      fetch := e'.next e'.fetch
      state := .busy step phase' stopPending' } := by
  obtain ⟨size, base, submit, fetch, complete, busy⟩ := h
  rw [fetching] at busy
  obtain ⟨caught, covers⟩ := busy
  have fields : e'.ringSize = e.ringSize ∧ e'.ringBase = e.ringBase ∧ e'.submit = e.submit ∧ e'.fetch = e.fetch ∧
      e'.complete = e.complete := by
    rcases same with rfl | rfl
    · exact ⟨rfl, rfl, rfl, rfl, rfl⟩
    · exact ⟨rfl, rfl, rfl, rfl, rfl⟩
  obtain ⟨size', base', submit', fetch', complete'⟩ := fields
  have moved : e'.next e'.fetch = e'.next e'.complete := by rw [fetch', complete', caught]
  refine ⟨by rwa [size'], by rwa [base'], by rwa [submit', size'], Engine.next_lt (by rwa [size']) _,
    by rwa [complete', size'], ?_⟩
  have goal : e'.next e'.fetch = e'.next e'.complete ∧ e'.submit ≠ e'.complete := ⟨moved, by rwa [submit', complete']⟩
  cases step with
  | fetch => exact absurd rfl later
  | snapshot => exact goal
  | completion => exact goal

theorem stepAfter_ne_fetch (r : Beat) (k : Taken) : stepAfter r k ≠ .fetch := by
  unfold stepAfter
  dsimp only
  split <;> exact EngineStep.noConfusion

/-- The engine goes on from the snapshot write to the completion write (R149). -/
theorem Engine.ok_completion {e : Engine} {command : InHand} {address : Address} {beats : List Beat} {phase phase' : RequestPhase}
    {stopPending stopPending' : Bool} (writing : e.state = .busy (.snapshot command address beats) phase stopPending) (h : e.Ok) :
    Engine.Ok { e with state := .busy (.completion command) phase' stopPending' } := by
  obtain ⟨size, base, submit, fetch, complete, busy⟩ := h
  rw [writing] at busy
  exact ⟨size, base, submit, fetch, complete, busy⟩

theorem placed_begin (b : Bool) : (if b then beginFetch false else EngineState.idle).placed = 0 := by cases b <;> rfl

theorem issued_begin (b : Bool) : (if b then beginFetch false else EngineState.idle).issued = 0 := by cases b <;> rfl

/-- The engine after the completion write (R150). -/
def Engine.completed (e : Engine) (stopPending : Bool) : Engine :=
  { e with
    complete := e.next e.complete
    state := if stopPending then .stopped
      else if { e with complete := e.next e.complete }.hasPending then beginFetch false else .idle }

theorem completeCommand_eq (stopPending : Bool) (s : State) : completeCommand stopPending s =
    { s with
      engine := s.engine.completed stopPending
      intStatus := (completeCommand stopPending s).intStatus } := by
  unfold completeCommand Engine.completed
  dsimp only
  cases stopPending with
  | true => split_ifs <;> rfl
  | false => split_ifs <;> rfl

theorem Engine.ok_completed {e : Engine} {command : InHand} {phase : RequestPhase} {stopPending stopPending' : Bool}
    (writing : e.state = .busy (.completion command) phase stopPending) (h : e.Ok) : (e.completed stopPending').Ok := by
  obtain ⟨size, base, submit, fetch, complete, busy⟩ := h
  rw [writing] at busy
  obtain ⟨covers, -⟩ := busy
  have pending : ({ e with complete := e.next e.complete } : Engine).hasPending = true ↔ e.submit ≠ e.fetch :=
    Engine.hasPending_iff submit fetch
  refine ⟨size, base, submit, fetch, Engine.next_lt size _, ?_⟩
  unfold Engine.completed
  dsimp only
  cases stopPending' with
  | true => exact covers.symm
  | false =>
    rw [if_neg Bool.false_ne_true]
    split_ifs with more
    · exact ⟨covers.symm, by rw [← covers]; exact pending.mp more⟩
    · exact ⟨covers.symm, not_not.mp fun moved => more (pending.mpr moved)⟩

theorem Engine.placed_completed (e : Engine) (stopPending : Bool) : (e.completed stopPending).state.placed = 0 := by
  cases stopPending with
  | true => rfl
  | false => exact placed_begin _

theorem Engine.issued_completed (e : Engine) (stopPending : Bool) : (e.completed stopPending).state.issued = 0 := by
  cases stopPending with
  | true => rfl
  | false => exact issued_begin _

/-- The halt of the engine touches the engine and the interrupt status alone (R153). -/
theorem haltEngine_fixed (cause : FaultCause) (s : State) : haltEngine cause s =
    { s with engine := (haltEngine cause s).engine, intStatus := (haltEngine cause s).intStatus } := by
  unfold haltEngine
  split <;> rfl

theorem Engine.ok_haltEngine (cause : FaultCause) {s : State} (h : s.engine.Ok) : (haltEngine cause s).engine.Ok := by
  unfold haltEngine
  split
  · obtain ⟨size, base, submit, -, complete, -⟩ := h
    exact ⟨size, base, submit, complete, complete, rfl⟩
  · exact h
  · exact h
  · exact h

theorem placed_haltEngine (cause : FaultCause) (s : State) : (haltEngine cause s).engine.state.placed = 0 := by
  unfold haltEngine
  split <;> simp_all [EngineState.placed, setSource]

theorem issued_haltEngine (cause : FaultCause) (s : State) : (haltEngine cause s).engine.state.issued = 0 := by
  unfold haltEngine
  split <;> simp_all [EngineState.issued, setSource]

/-! ### The end of the engine's tag (R129, R130, R133, R147, R149, R150) -/

section EngineTag

variable {s : State} {t : TagId} {f : IssuedTag} (issued : s.tag t = .issued f) (engine : f.origin = .engine)

theorem engine_endTag (t : TagId) (f : IssuedTag) (after : Tag) (s : State) : (endTag t f after s).engine = s.engine := by
  rw [endTag_fixed]

include issued engine

/-- The engine's tag ends, and the engine goes on without a change of the lease tables. -/
theorem changes_endEngineTag {after : Tag} (ended : after.ended = true) (e : Engine) (status : BitVec 6)
    (ok : s.engine.Ok → e.Ok) (placed : e.state.placed = 0) (notIssued : e.state.issued = 0) :
    Changes s { endTag t f after s with engine := e, intStatus := status } :=
  (Change.endEngineTag s t f after _ e issued engine ended .refl ok placed notIssued).changes.trans (Change.of_quiet rfl)

theorem changes_haltEngine {after : Tag} (ended : after.ended = true) (cause : FaultCause) :
    Changes s (haltEngine cause (endTag t f after s)) := by
  rw [haltEngine_fixed]
  exact changes_endEngineTag issued engine ended _ _
    (fun ok => Engine.ok_haltEngine cause (by rw [engine_endTag]; exact ok)) (placed_haltEngine _ _) (issued_haltEngine _ _)

theorem changes_executeFetched {phase : RequestPhase} {stopPending : Bool}
    (fetching : s.engine.state = .busy .fetch phase stopPending) (r : Beat) {take : Beat → State → Taken}
    (taken : ∀ u : State, LeaseChanges u (take r u).state) (stopPending' : Bool) :
    Changes s (executeFetched r take stopPending' (endTag t f .free s)) := by
  have same := engine_leaseChanges (taken (endTag t f .free s))
  rw [engine_endTag] at same
  exact (Change.endEngineTag s t f .free _ _ issued engine rfl (taken _)
    (Engine.ok_executed fetching same (stepAfter_ne_fetch _ _)) rfl rfl).changes

theorem changes_engineAnswered (data : List Beat) : Changes s (engineAnswered data (endTag t f .free s)) := by
  have idle : s.engine.state.placed = 0 → s.engine.state.issued = 0 → Changes s (endTag t f .free s) := fun placed issuedNot => by
    have h := changes_endEngineTag issued engine (after := .free) rfl s.engine (endTag t f .free s).intStatus id placed issuedNot
    rw [← engine_endTag t f .free s] at h
    exact h
  unfold engineAnswered
  rw [engine_endTag]
  split
  · exact changes_executeFetched issued engine ‹_› _ (changes_takeRecord _) _
  · unfold State.setEngineState
    rw [engine_endTag]
    exact changes_endEngineTag issued engine rfl _ (endTag t f .free s).intStatus (Engine.ok_completion ‹_›) rfl rfl
  · rw [completeCommand_eq, engine_endTag]
    rename_i stopPending writing
    exact changes_endEngineTag issued engine rfl _ _ (Engine.ok_completed writing) (Engine.placed_completed _ _)
      (Engine.issued_completed _ _)
  · exact idle (by simp [*, EngineState.placed]) (by simp [*, EngineState.issued])
  · exact idle (by simp [*, EngineState.placed]) (by simp [*, EngineState.issued])
  · exact idle (by simp [*, EngineState.placed]) (by simp [*, EngineState.issued])

end EngineTag

/-- The tag under which the engine's fetch stands (R143, R147). -/
theorem fetchInFlight_issued {s : State} {t : TagId} {f : IssuedTag} {stopPending : Bool}
    (h : fetchInFlight s = some (t, f, stopPending)) :
    s.tag t = .issued f ∧ f.origin = .engine ∧ s.engine.state = .busy .fetch .issued stopPending := by
  unfold fetchInFlight at h
  split at h
  · rename_i fetching
    obtain ⟨u, -, found⟩ := List.exists_of_findSome?_eq_some h
    split at found
    · rename_i issued
      split at found
      · obtain ⟨rfl, rfl, rfl⟩ : u = t ∧ _ = f ∧ _ = stopPending := by simpa using found
        exact ⟨issued, ‹_›, fetching⟩
      · exact absurd found (by simp)
    · exact absurd found (by simp)
    · exact absurd found (by simp)
  · exact absurd h (by simp)

/-- A command is taken in the claim that answers the engine's fetch (R147). -/
theorem changes_answerFetch (r : Beat) {take : Beat → State → Taken} (taken : ∀ u : State, LeaseChanges u (take r u).state)
    (s : State) : Changes s (answerFetch r take s) := by
  unfold answerFetch
  split
  · rename_i found
    obtain ⟨issued, engine, fetching⟩ := fetchInFlight_issued found
    exact changes_executeFetched issued engine fetching r taken _
  · exact .refl

/-! ### Answers on tags (R79, R129 to R134, R137) -/

theorem answerTag_fixed (f : IssuedTag) (status : ClientStatus) (data : List Beat) (s : State) :
    answerTag f status data s = { s with sent := (answerTag f status data s).sent } := by
  unfold answerTag
  split
  · split <;> rfl
  · rfl

theorem spendFree_fixed (f : IssuedTag) (data : List Beat) (s : State) :
    spendFree f data s = { s with freeIndex := (spendFree f data s).freeIndex } := by
  unfold spendFree
  split <;> rfl

theorem changes_answerTag (f : IssuedTag) (status : ClientStatus) (data : List Beat) (s : State) :
    Changes s (answerTag f status data s) := by
  rw [answerTag_fixed]
  exact Change.of_quiet rfl

theorem changes_spendFree (f : IssuedTag) (data : List Beat) (s : State) : Changes s (spendFree f data s) := by
  rw [spendFree_fixed]
  exact Change.of_quiet rfl

theorem tag_answerTag (f : IssuedTag) (status : ClientStatus) (data : List Beat) (s : State) (t : TagId) :
    (answerTag f status data s).tag t = s.tag t := by
  rw [answerTag_fixed]
  rfl

theorem tag_spendFree (f : IssuedTag) (data : List Beat) (s : State) (t : TagId) : (spendFree f data s).tag t = s.tag t := by
  rw [spendFree_fixed]
  rfl

/-- A tag ends with a fault or an abort, and the engine halts when it was its own. -/
theorem changes_haltIfEngine {s : State} {t : TagId} {f : IssuedTag} (issued : s.tag t = .issued f) {after : Tag}
    (ended : after.ended = true) (cause : FaultCause) : Changes s (haltIfEngine f cause (endTag t f after s)) := by
  unfold haltIfEngine
  split
  · exact changes_haltEngine issued ‹_› ended cause
  · rename_i client
    exact (Change.endTag s t f after issued (by rw [client]; rfl) ended).changes

theorem tag_countFault (l : LeaseId) (s : State) (t : TagId) : (countFault l s).tag t = s.tag t := by
  rw [countFault_eq]
  rfl

theorem changes_faultTag {s : State} {t : TagId} {f : IssuedTag} (issued : s.tag t = .issued f) (status : ClientStatus)
    (cause : FaultCause) {after : Tag} (ended : after.ended = true) : Changes s (faultTag t f status cause after s) := by
  have still : (answerTag f status [] s).tag t = .issued f := (tag_answerTag ..).trans issued
  have counted := (changes_countFault _ (.inr (.inr (.inl ⟨t, f, still, rfl⟩)))).toChanges
  exact ((changes_answerTag f status [] s).trans counted).trans (changes_haltIfEngine ((tag_countFault _ _ _).trans still) ended cause)

/-- A tag changes without a change of the lease or the origin it names. -/
theorem changes_setTag {s : State} {t : TagId} {v : Tag} (names : ∀ l : LeaseId, v.names l = (s.tag t).names l)
    (engine : v.isEngine = (s.tag t).isEngine) (free : s.tag t = .free → v = .free) : Changes s (s.setTag t v) := by
  have tag : ∀ u : TagId, (s.tags.set t.val v)[u.val] = if t = u then v else s.tag u := fun u => tag_setTag s t u v
  refine (Change.tags s _ (fun u l => ?_) (fun u => ?_) fun u => ?_).changes
  · rw [tag]
    split_ifs with own
    · rw [names l, own]
    · rfl
  · rw [tag]
    split_ifs with own
    · rw [engine, own]
    · rfl
  · rw [tag]
    split_ifs with own
    · exact own ▸ free
    · exact id

theorem changes_freeOrphan {s : State} {t : TagId} (orphaned : s.tag t = .orphaned) : Changes s (s.setTag t .free) :=
  changes_setTag (fun _ => by rw [orphaned]; rfl) (by rw [orphaned]; rfl) fun _ => rfl

theorem changes_abortTag (t : TagId) (s : State) : Changes s (abortTag t s) := by
  unfold abortTag
  split
  · rename_i f issued
    have still : (answerTag f .aborted [] s).tag t = .issued f := (tag_answerTag ..).trans issued
    exact (changes_answerTag f .aborted [] s).trans (changes_haltIfEngine still rfl .memoryAbort)
  · exact .refl
  · exact changes_freeOrphan ‹_›

theorem changes_respondOk {s : State} {t : TagId} {f : IssuedTag} (issued : s.tag t = .issued f) (data : List Beat) :
    Changes s (respondOk t f data s) := by
  have answered := (changes_spendFree f data s).trans (changes_answerTag f .done (readData f data s) _)
  have still : (answerTag f .done (readData f data s) (spendFree f data s)).tag t = .issued f :=
    ((tag_answerTag ..).trans (tag_spendFree ..)).trans issued
  unfold respondOk
  split
  · exact answered.trans (changes_engineAnswered still ‹_› _)
  · rename_i client
    exact answered.trans (Change.endTag _ t f .free still (by rw [client]; rfl) rfl).changes

theorem leads_memoryResponse (t : TagId) (status : MemoryStatus) (data : List Beat) (s : State) :
    Leads s (execMemoryResponse t status data s) := by
  unfold execMemoryResponse
  split
  · exact .next (Change.of_quiet rfl)
  · split
    · exact .next (Change.of_quiet rfl)
    · exact .next (changes_freeOrphan ‹_›)
    · split
      · exact .next (changes_respondOk ‹_› data)
      · exact .next (changes_faultTag ‹_› .memoryError .memoryError rfl)

/-! ### Issue (R125, R126, R146) -/

theorem noteEngineIssue_eq (o : Origin) (s : State) : noteEngineIssue o s = { s with engine := s.engine.noteIssue o } := by
  cases o <;> rfl

/-- What ISSUE takes stands at the head of its queue, under a FREE tag, in LINK_UP (R125). -/
theorem nextIssue_some {s : State} {q : QueueName} {e : DispatchEntry} {t : TagId} (h : nextIssue s = some (q, e, t)) :
    s.link = .up ∧ s.tag t = .free ∧ ∃ rest, s.queue q = e :: rest := by
  unfold nextIssue at h
  split at h
  · rename_i up lowest _
    split at h
    · rename_i rest head
      obtain ⟨rfl, rfl, rfl⟩ : _ = q ∧ _ = e ∧ _ = t := by simpa using h
      have free := List.find?_some lowest
      exact ⟨up, by simpa using free, rest, head⟩
    · exact absurd h (by simp)
  · exact absurd h (by simp)

theorem issueEntry_g (e : DispatchEntry) (t : TagId) (s : State) : issueEntry .g e t s =
    handTrigger { issueG e t s with memoryOut := s.memoryOut ++ [.request t e.direction e.address e.length e.data] } := by
  unfold issueEntry
  dsimp only
  rw [noteEngineIssue_eq]
  rfl

theorem issueEntry_s (e : DispatchEntry) (t : TagId) (s : State) : issueEntry .s e t s =
    handTrigger { issueS e t s with memoryOut := s.memoryOut ++ [.request t e.direction e.address e.length e.data] } := by
  unfold issueEntry
  dsimp only
  rw [noteEngineIssue_eq]
  rfl

theorem changes_issueEntry {s : State} {q : QueueName} {e : DispatchEntry} {t : TagId} (next : nextIssue s = some (q, e, t)) :
    Changes s (issueEntry q e t s) := by
  obtain ⟨up, free, rest, head⟩ := nextIssue_some next
  cases q with
  | g =>
    rw [issueEntry_g]
    exact ((Change.issueG s e rest t head free up).changes.trans (Change.of_quiet rfl)).trans (changes_handTrigger _).toChanges
  | s =>
    rw [issueEntry_s]
    exact ((Change.issueS s e rest t head free up).changes.trans (Change.of_quiet rfl)).trans (changes_handTrigger _).toChanges

theorem leads_issue (s : State) : Leads s (execIssue s) := by
  unfold execIssue
  split
  · exact .next (changes_issueEntry ‹_›)
  · exact .stays s

end Sys2Proof.Machine
end

section
/-!
PROOF. The client ports and the admission unit as sequences of changes.
-/

namespace Sys2Proof.Machine

/-! ### Client ports (R69 to R76) -/

/-- A port unit whose link may still hold back requests the FIFO has room for. -/
def Port.Unsettled (u : Port) : Prop :=
  u.fifo.length ≤ 8 ∧ (u.head = .idle ↔ u.fifo = []) ∧ (u.head = .blocked → u.examined ≠ none) ∧ u.stallTimer ≤ 65535 ∧
    u.stallLimit ≤ 65535

theorem Port.Unsettled.of_ok {u : Port} (h : u.Ok) : u.Unsettled := by
  obtain ⟨depth, idle, blocked, -, timer, limit⟩ := h
  exact ⟨depth, idle, blocked, timer, limit⟩

theorem Port.Unsettled.accept {u : Port} (h : u.Unsettled) (room : u.fifo.length < 8) (r : PortRequest) :
    (u.accept r).Unsettled := by
  obtain ⟨-, idle, blocked, timer, limit⟩ := h
  unfold Port.accept
  split
  · exact ⟨by simp, by simp, by simp, by simp, limit⟩
  · rename_i some_head
    refine ⟨?_, ?_, blocked, timer, limit⟩
    · simpa using room
    · simpa using fun e => some_head (idle.mp e)

theorem Port.Unsettled.acceptWaiting {u : Port} (h : u.Unsettled) (w : List PortRequest) : (acceptWaiting w u).Ok := by
  induction w generalizing u with
  | nil =>
    obtain ⟨depth, idle, blocked, timer, limit⟩ := h
    exact ⟨depth, idle, blocked, fun held => absurd rfl held, timer, limit⟩
  | cons r rest ih =>
    unfold Machine.acceptWaiting
    split
    · exact ih (h.accept ‹_› r)
    · rename_i full
      obtain ⟨depth, idle, blocked, timer, limit⟩ := h
      exact ⟨depth, idle, blocked, fun _ => Nat.le_antisymm depth (Nat.le_of_not_lt full), timer, limit⟩

theorem Port.Unsettled.settle {u : Port} (h : u.Unsettled) : u.settle.Ok := h.acceptWaiting u.link

theorem Port.ok_arrive {u : Port} (h : u.Ok) (r : PortRequest) : (u.arrive r).Ok :=
  have unsettled : u.Unsettled := Port.Unsettled.of_ok h
  Port.Unsettled.settle (u := { u with link := u.link ++ [r] }) unsettled

theorem Port.ok_depart {u : Port} (h : u.Ok) : u.depart.Ok := by
  obtain ⟨depth, -, -, -, -, limit⟩ := h
  refine Port.Unsettled.settle ⟨?_, ?_, ?_, Nat.zero_le _, limit⟩
  · show u.fifo.tail.length ≤ 8
    rw [List.length_tail]
    omega
  · show (if u.fifo.tail = [] then HeadState.idle else .examining) = .idle ↔ u.fifo.tail = []
    split <;> simp [*]
  · show (if u.fifo.tail = [] then HeadState.idle else .examining) = .blocked → _
    split <;> simp

theorem Port.ok_flush_settle {u : Port} (limit : u.stallLimit ≤ 65535) : u.flush.settle.Ok :=
  Port.Unsettled.settle ⟨Nat.zero_le _, by simp [Port.flush], by simp [Port.flush], Nat.zero_le _, limit⟩

theorem Port.ok_softReset_settle {u : Port} (h : u.Ok) : u.softReset.settle.Ok := by
  obtain ⟨-, -, -, -, -, limit⟩ := h
  exact Port.Unsettled.settle
    ⟨Nat.zero_le _, by simp [Port.softReset, Port.flush], by simp [Port.softReset, Port.flush], Nat.zero_le _, limit⟩

theorem Port.ok_powerOn_settle (link : List PortRequest) : Port.Ok (Port.settle { Port.powerOn with link := link }) :=
  Port.Unsettled.settle ⟨Nat.zero_le _, by simp [Port.powerOn], by simp [Port.powerOn], Nat.zero_le _, Nat.zero_le _⟩

theorem Port.ok_takeTriggers {u : Port} (h : u.Ok) (left : Nat) : (u.takeTriggers left).Ok := by
  obtain ⟨depth, idle, blocked, link, timer, limit⟩ := h
  unfold Port.takeTriggers
  split
  · exact ⟨depth, idle, blocked, link, timer, limit⟩
  · refine ⟨depth, ?_, ?_, link, timer, limit⟩ <;> cases head : u.head <;> simp_all

theorem Port.ok_block {u : Port} (h : u.Ok) {r : PortRequest} {rest : List PortRequest} (head : u.fifo = r :: rest) (l : LeaseId) :
    Port.Ok { u with head := .blocked, examined := some l } := by
  obtain ⟨depth, -, -, link, timer, limit⟩ := h
  exact ⟨depth, by simp [head], by simp, link, timer, limit⟩

theorem changes_setPort {s : State} {p : PortId} {u : Port} (ok : (s.port p).Ok → u.Ok) : Changes s (s.setPort p u) := by
  refine (LeaseChange.ports s _ fun p' own => ?_).toChanges
  have now := port_setPort s p p' u
  rw [show (s.ports.set p.val u)[p'.val] = (s.setPort p u).port p' from rfl, now]
  split_ifs with same
  · exact ok (same ▸ own)
  · exact own

theorem changes_departPort (p : PortId) (s : State) : Changes s (departPort p s) := changes_setPort Port.ok_depart

theorem changes_refuseHead (p : PortId) (r : PortRequest) (status : ClientStatus) (s : State) :
    Changes s (refuseHead p r status s) :=
  (Change.of_quiet (t := sendResponse p r.clientId status [] s) rfl).trans (changes_departPort p _)

theorem changes_takeTriggers (s : State) : Changes s (takeTriggers s) := by
  have ports : Changes s { s with ports := tabulate fun p => (s.port p).takeTriggers ((s.delayed.headD []).count p) } :=
    (LeaseChange.ports s _ fun p ok => by
      rw [getElem_tabulate]
      exact Port.ok_takeTriggers ok _).toChanges
  exact ports.trans (Change.of_quiet rfl)

theorem leads_requestArrival (p : PortId) (r : PortRequest) (s : State) : Leads s (execRequestArrival p r s) :=
  .ite (fun _ => .next (changes_setPort fun ok => Port.ok_arrive ok r)) fun _ => .stays s

/-! ### Charges, overdraws, joins (R97, R98, R100, R111, R113) -/

theorem live_of_slot {s : State} {p : PortId} {t : StreamTag} {l : LeaseId} (h : s.slot p t = some l) : s.Live l :=
  .inr (.inl ⟨p, t, h⟩)

theorem live_of_opened {s : State} {l : LeaseId} (h : (s.lease l).state = .opened) : s.Live l := .inl (by simp [h])

/-- What is placed in a queue after a change of the lease record is an entry that joins, counted in outstanding. -/
theorem place_setLease (s : State) (q : QueueName) (e : DispatchEntry) (r : Lease) :
    (s.setLease e.lease { r with outstanding := r.outstanding + 1 }).place q e = enqueue q e (s.setLease e.lease r) := by
  unfold enqueue
  rw [lease_setLease_self, leases_setLease, Vector.set_set]
  cases q <;> rfl

theorem chargeAndPlace_eq (e : DispatchEntry) (s : State) : chargeAndPlace e s =
    enqueue (s.lease e.lease).target e (s.setLease e.lease ((s.lease e.lease).spend e.length)) := by
  unfold chargeAndPlace
  rw [Lease.charge_eq_spend]
  exact place_setLease s _ e ((s.lease e.lease).spend e.length)

theorem overdrawAndPlace_eq (e : DispatchEntry) (s : State) : overdrawAndPlace e s =
    enqueue .s e (s.setLease e.lease { s.lease e.lease with
      overdrawBeats := satAdd32 (s.lease e.lease).overdrawBeats e.length }) :=
  place_setLease s .s e { s.lease e.lease with overdrawBeats := satAdd32 (s.lease e.lease).overdrawBeats e.length }

theorem holdJoin_eq (p : PortId) (l : LeaseId) (r : PortRequest) (s : State) : holdJoin p l r s =
    joinHeld l (heldOfRequest p r) (s.setLease l { s.lease l with heldTotal := satAdd32 (s.lease l).heldTotal 1 }) := by
  unfold joinHeld
  rw [lease_setLease_self, leases_setLease, Vector.set_set]
  rfl

theorem leaveHoldQueue_eq (l : LeaseId) (s : State) : leaveHoldQueue l s = handTrigger (leaveHeld l s) := rfl

theorem live_setLease {s : State} {l : LeaseId} {r : Lease} (h : s.Live l) (state : r.state = (s.lease l).state) :
    (s.setLease l r).Live l := by
  rcases h with not_free | other
  · refine .inl ?_
    rw [lease_setLease_self, state]
    exact not_free
  · exact .inr other

theorem changes_spend {s : State} {l : LeaseId} {length : Nat} (live : s.Live l)
    (short : (s.lease l).creditShort length = false) : LeaseChanges s (s.setLease l ((s.lease l).spend length)) :=
  changes_adjust (Lease.adjusts_spend short) live rfl

theorem changes_chargeAndPlace {s : State} {e : DispatchEntry} (live : s.Live e.lease)
    (short : (s.lease e.lease).creditShort e.length = false) (room : s.queueFree (s.lease e.lease).target = true)
    (client : e.origin.isEngine = false) : Changes s (chargeAndPlace e s) := by
  rw [chargeAndPlace_eq]
  have joined := Change.enqueue (s.setLease e.lease ((s.lease e.lease).spend e.length)) (s.lease e.lease).target e room
    (live_setLease live rfl) client
  exact (changes_spend live short).toChanges.trans joined.changes

theorem changes_overdrawAndPlace {s : State} {e : DispatchEntry} (live : s.Live e.lease) (room : s.queueFree .s = true)
    (client : e.origin.isEngine = false) : Changes s (overdrawAndPlace e s) := by
  rw [overdrawAndPlace_eq]
  have counted := changes_counts s live (s.lease e.lease).periodsRemaining (s.lease e.lease).heldTotal
    (s.lease e.lease).refusedCount (s.lease e.lease).faultCount (satAdd32 (s.lease e.lease).overdrawBeats e.length)
  have joined := Change.enqueue (s.setLease e.lease { s.lease e.lease with
    overdrawBeats := satAdd32 (s.lease e.lease).overdrawBeats e.length }) .s e room (live_setLease live rfl) client
  exact counted.toChanges.trans joined.changes

theorem changes_holdJoin {s : State} {p : PortId} {l : LeaseId} {r : PortRequest} (bound : s.slot p r.tag = some l)
    (below : (s.lease l).heldCount < (s.lease l).holdLimit) (room : 0 < s.poolFree) : Changes s (holdJoin p l r s) := by
  rw [holdJoin_eq]
  have counted := changes_counts s (live_of_slot bound) (s.lease l).periodsRemaining (satAdd32 (s.lease l).heldTotal 1)
    (s.lease l).refusedCount (s.lease l).faultCount (s.lease l).overdrawBeats
  have joined := Change.joinHeld (s.setLease l { s.lease l with heldTotal := satAdd32 (s.lease l).heldTotal 1 }) p r.tag l
    (heldOfRequest p r) bound (by rw [lease_setLease_self]; exact below) room
  exact counted.toChanges.trans joined.changes

theorem changes_leaveHoldQueue {s : State} {l : LeaseId} (held : s.holdQueue l ≠ []) (opened : (s.lease l).state = .opened) :
    Changes s (leaveHoldQueue l s) := by
  rw [leaveHoldQueue_eq]
  exact (Change.leaveHeld s l held opened).changes.trans (changes_handTrigger _).toChanges

/-! ### Port heads (R91 to R100) -/

/-- What the stages before an outcome have established. -/
def PortOutcome.Sound (s : State) (p : PortId) (r : PortRequest) : PortOutcome → Prop
  | .refuse _ => True
  | .refuseCounted l _ => s.slot p r.tag = some l
  | .overdraw l => s.slot p r.tag = some l ∧ s.queueFree .s = true
  | .hold l => s.slot p r.tag = some l ∧ (s.lease l).heldCount < (s.lease l).holdLimit ∧ 0 < s.poolFree
  | .block _ => True
  | .charge l => s.slot p r.tag = some l ∧ (s.lease l).creditShort r.length.val = false ∧
      s.queueFree (s.lease l).target = true

theorem waitOutcome_sound {s : State} {p : PortId} {r : PortRequest} {l : LeaseId} (bound : s.slot p r.tag = some l) :
    (waitOutcome s l).Sound s p r := by
  unfold waitOutcome
  split
  · rename_i room
    exact ⟨bound, room.1, room.2⟩
  · exact trivial

theorem leaseOutcome_sound {s : State} {p : PortId} {r : PortRequest} {l : LeaseId} (bound : s.slot p r.tag = some l) :
    (leaseOutcome s l r).Sound s p r := by
  unfold leaseOutcome
  dsimp only
  split_ifs with fence oversize waits short overdraws free target
  · exact bound
  · exact bound
  · exact waitOutcome_sound bound
  · exact ⟨bound, free⟩
  · exact trivial
  · exact waitOutcome_sound bound
  · exact ⟨bound, by simpa using short, target⟩
  · exact trivial

theorem portOutcome_sound (s : State) (p : PortId) (r : PortRequest) : (portOutcome s p r).Sound s p r := by
  unfold portOutcome
  split
  · exact trivial
  · split
    · exact trivial
    · exact leaseOutcome_sound ‹_›

theorem changes_applyPortOutcome {s : State} {p : PortId} {r : PortRequest} {rest : List PortRequest}
    (head : (s.port p).fifo = r :: rest) {o : PortOutcome} (sound : o.Sound s p r) : Changes s (applyPortOutcome p r o s) := by
  cases o with
  | refuse status => exact changes_refuseHead p r status s
  | refuseCounted l status =>
    exact (changes_countRefusals s (live_of_slot sound) 1).toChanges.trans (changes_refuseHead p r status _)
  | overdraw l =>
    obtain ⟨bound, free⟩ := sound
    exact (changes_overdrawAndPlace (e := entryOfRequest p l r) (live_of_slot bound) free rfl).trans (changes_departPort p _)
  | hold l =>
    obtain ⟨bound, below, room⟩ := sound
    exact (changes_holdJoin bound below room).trans (changes_departPort p _)
  | block l => exact changes_setPort fun ok => Port.ok_block ok head l
  | charge l =>
    obtain ⟨bound, short, free⟩ := sound
    exact (changes_chargeAndPlace (e := entryOfRequest p l r) (live_of_slot bound) short free rfl).trans (changes_departPort p _)

theorem changes_examinePort (p : PortId) (s : State) : Changes s (examinePort p s) := by
  unfold examinePort
  split
  · exact .refl
  · exact changes_applyPortOutcome ‹_› (portOutcome_sound s p _)

/-- The admission unit serves a position after the ports have taken their triggers (R72, R90). -/
theorem changes_served (s : State) (i : Fin 72) : Changes s { takeTriggers s with lastServed := i } :=
  (changes_takeTriggers s).trans (Change.of_quiet rfl)

theorem leads_portHeadExamination (s : State) : Leads s (execPortHeadExamination s) := by
  unfold execPortHeadExamination
  dsimp only
  split
  · exact .next (changes_takeTriggers s)
  · split
    · exact .next ((changes_served s _).trans (changes_examinePort _ _))
    · exact .next (changes_takeTriggers s)
    · exact .next (changes_takeTriggers s)

/-! ### Released entries (R101, R113) -/

/-- What the steps before an outcome have established. -/
def ReleaseOutcome.Sound (s : State) (l : LeaseId) (e : HeldEntry) : ReleaseOutcome → Prop
  | .placed => (s.lease l).state = .opened ∧ (s.lease l).creditShort e.length = false ∧
      s.queueFree (s.lease l).target = true
  | .placedOverdraw => (s.lease l).state = .opened ∧ s.queueFree .s = true
  | .refused => (s.lease l).state = .opened
  | .stop => True
  | .pause => True

theorem releaseOutcome_sound (s : State) (l : LeaseId) (e : HeldEntry) : (releaseOutcome s l e).Sound s l e := by
  unfold releaseOutcome
  dsimp only
  split_ifs with closed oversize short overdraws free target
  · exact trivial
  · exact not_not.mp closed
  · exact ⟨not_not.mp closed, free⟩
  · exact trivial
  · exact trivial
  · exact ⟨not_not.mp closed, by simpa using short, target⟩
  · exact trivial

/-- The state and the hold queue of a lease after an entry of its own joins a dispatch queue. -/
theorem state_enqueue_setLease {s : State} {l : LeaseId} {q : QueueName} {e : DispatchEntry} {r : Lease} (own : e.lease = l) :
    ((enqueue q e (s.setLease l r)).lease l).state = r.state := by
  rw [lease_of_set (s.setLease l r) rfl, if_pos own, own, lease_setLease_self]

theorem changes_applyReleaseOutcome {s : State} {l : LeaseId} {e : HeldEntry} (held : s.holdQueue l ≠ []) {o : ReleaseOutcome}
    (sound : o.Sound s l e) : Changes s (applyReleaseOutcome l e o s) := by
  cases o with
  | placed =>
    obtain ⟨opened, short, free⟩ := sound
    have placed := changes_chargeAndPlace (e := entryOfHeld l e) (live_of_opened opened) short free rfl
    refine placed.trans (changes_leaveHoldQueue ?_ ?_)
    · rw [chargeAndPlace_eq]
      exact held
    · rw [chargeAndPlace_eq]
      exact (state_enqueue_setLease rfl).trans opened
  | placedOverdraw =>
    obtain ⟨opened, free⟩ := sound
    have placed := changes_overdrawAndPlace (e := entryOfHeld l e) (live_of_opened opened) free rfl
    refine placed.trans (changes_leaveHoldQueue ?_ ?_)
    · rw [overdrawAndPlace_eq]
      exact held
    · rw [overdrawAndPlace_eq]
      exact (state_enqueue_setLease rfl).trans opened
  | refused =>
    have opened : (s.lease l).state = .opened := sound
    have counted := (changes_countRefusals s (live_of_opened opened) 1).toChanges
    have answered : Changes (s.setLease l ((s.lease l).countRefusals 1))
      (sendResponse e.port e.clientId .refusedOversize [] (s.setLease l ((s.lease l).countRefusals 1))) := Change.of_quiet rfl
    refine (counted.trans answered).trans (changes_leaveHoldQueue held ?_)
    show ((s.setLease l _).lease l).state = .opened
    rw [lease_setLease_self]
    exact opened
  | stop => exact (change_setRelease s l .idle fun h => absurd rfl h).toChanges
  | pause => exact (change_setRelease s l .paused fun _ => held).toChanges

theorem changes_examineRelease (l : LeaseId) (s : State) : Changes s (examineRelease l s) := by
  unfold examineRelease
  split
  · exact .refl
  · rename_i held
    exact changes_applyReleaseOutcome (by simp [held]) (releaseOutcome_sound s l _)

theorem leads_releasedEntryExamination (s : State) : Leads s (execReleasedEntryExamination s) := by
  unfold execReleasedEntryExamination
  dsimp only
  split
  · exact .next (changes_takeTriggers s)
  · split
    · exact .next ((changes_served s _).trans (changes_examineRelease _ _))
    · exact .next (changes_takeTriggers s)
    · exact .next (changes_takeTriggers s)

/-! ### Engine requests (R102, R103) -/

theorem Engine.ok_phase {e : Engine} {step : EngineStep} {phase phase' : RequestPhase} {stopPending stopPending' : Bool}
    (busy : e.state = .busy step phase stopPending) (h : e.Ok) : Engine.Ok { e with state := .busy step phase' stopPending' } := by
  obtain ⟨size, base, submit, fetch, complete, indices⟩ := h
  rw [busy] at indices
  refine ⟨size, base, submit, fetch, complete, ?_⟩
  cases step <;> exact indices

theorem changes_engineWaits {s : State} {step : EngineStep} {stopPending : Bool}
    (presented : s.engine.state = .busy step .presented stopPending) :
    Changes s (s.setEngineState (.busy step .waiting stopPending)) :=
  (Change.engine s _ (Engine.ok_phase presented) (by rw [presented]; rfl) (by rw [presented]; rfl)).changes

theorem changes_examineEngine {s : State} (presents : s.engine.state.presents = true) : Changes s (examineEngine s) := by
  unfold examineEngine
  split
  · rename_i step phase stopPending busy
    have presented : s.engine.state = .busy step .presented stopPending := by
      rw [busy] at presents ⊢
      cases phase with
      | presented => rfl
      | waiting => exact absurd presents Bool.false_ne_true
      | placed => exact absurd presents Bool.false_ne_true
      | issued => exact absurd presents Bool.false_ne_true
    dsimp only
    split_ifs with short full
    · exact changes_engineWaits presented
    · exact changes_engineWaits presented
    · have room : s.queueFree .g = true := by simpa using full
      have spent := changes_spend (s := s) (l := 0) (.inr (.inr (.inr rfl))) (by simpa using short)
      have placed := Change.enqueueEngine (s.setLease 0 ((s.lease 0).spend (engineEntry s.engine step).length))
        (engineEntry s.engine step) step stopPending room presented rfl rfl
      have joined := place_setLease s .g (engineEntry s.engine step) ((s.lease 0).spend (engineEntry s.engine step).length)
      exact spent.toChanges.trans (joined ▸ placed.changes)
  · exact .refl
  · exact .refl
  · exact .refl

/-- The position served has an item presented (R90). -/
theorem waiting_of_nextServed {s : State} {i : Fin 72} (h : nextServed s = some i) : waiting s i = true := List.find?_some h

theorem leads_engineRequestExamination (s : State) : Leads s (execEngineRequestExamination s) := by
  unfold execEngineRequestExamination
  dsimp only
  split
  · exact .next (changes_takeTriggers s)
  · rename_i i served
    split
    · rename_i engine
      have presents := waiting_of_nextServed served
      unfold waiting at presents
      rw [engine] at presents
      exact .next ((changes_served s _).trans (changes_examineEngine presents))
    · exact .next (changes_takeTriggers s)
    · exact .next (changes_takeTriggers s)

end Sys2Proof.Machine
end

section
/-!
PROOF. Time and the resets as sequences of changes.
-/

namespace Sys2Proof.Machine

/-! ### Period timers and the period end (R25, R28, R29, R32) -/

theorem PeriodTimer.follows_refl (k : Nat) (t : PeriodTimer) : PeriodTimer.Follows k t t := ⟨rfl, fun _ _ => rfl, id⟩

theorem PeriodTimer.follows_tick (k : Nat) (t : PeriodTimer) : PeriodTimer.Follows k t (t.tick k) := by
  unfold PeriodTimer.tick
  split_ifs with stopped expired
  · exact t.follows_refl k
  · exact ⟨rfl, fun still => absurd still (by simpa using stopped), fun _ => periodLength_pos k⟩
  · exact ⟨rfl, fun still => absurd still (by simpa using stopped), fun _ => Nat.lt_of_not_le expired⟩

/-- One of the period ends a timer has raised is taken (R29). -/
theorem PeriodTimer.follows_taken {t : PeriodTimer} (raised : 0 < t.raised) (k : Nat) :
    PeriodTimer.Follows k t { t with raised := t.raised - 1 } :=
  ⟨rfl, fun _ none => absurd none (Nat.ne_of_gt raised), id⟩

theorem changes_tickPeriodTimers (s : State) : Changes s (tickPeriodTimers s) :=
  (LeaseChange.timers s _ fun l => by
    rw [getElem_tabulate]
    exact (s.timer l).follows_tick _).toChanges

theorem changes_setTimer {s : State} {l : LeaseId} {t : PeriodTimer} (follows : PeriodTimer.Follows (s.lease l).k (s.timer l) t) :
    Changes s (s.setTimer l t) := by
  refine (LeaseChange.timers s _ fun l' => ?_).toChanges
  rw [show (s.timers.set l.val t)[l'.val] = (s.setTimer l t).timer l' from rfl, timer_setTimer]
  split_ifs with same
  · exact same ▸ follows
  · exact PeriodTimer.follows_refl _ _

theorem leads_periodTimerExpiry (l : LeaseId) (s : State) : Leads s (execPeriodTimerExpiry l s) :=
  .ite (fun _ => .next (changes_setTimer (PeriodTimer.follows_tick _ _))) fun _ => .stays s

theorem leads_periodEnd (l : LeaseId) (s : State) : Leads s (execPeriodEnd l s) :=
  .ite (fun ⟨raised, active⟩ =>
    have taken : Changes (s.setTimer l { s.timer l with raised := (s.timer l).raised - 1 }) _ :=
      (changes_takePeriodEnd (s.setTimer l _) active).toChanges
    .next ((changes_setTimer (PeriodTimer.follows_taken raised _)).trans taken)) fun _ => .stays s

/-! ### Stall timers and response timers (R74, R76, R132, R133) -/

theorem changes_countStall (u : Port) (s : State) : Changes s (countStall u s) := by
  unfold countStall
  split
  · exact .refl
  · split
    · exact .refl
    · exact (changes_countRefusals s (.inl ‹_›) 1).toChanges

theorem changes_stallExpire (p : PortId) (s : State) : Changes s (stallExpire p s) := by
  unfold stallExpire
  split
  · exact .refl
  · have counted : Changes s (setSource .portStall (countStall (s.port p) s)) :=
      (changes_countStall _ s).trans (Change.of_quiet rfl)
    exact counted.trans (changes_refuseHead p _ _ _)

theorem Port.ok_stallNext {u : Port} (h : u.Ok) : Port.Ok { u with stallTimer := u.stallNext } := by
  obtain ⟨depth, idle, blocked, link, -, limit⟩ := h
  exact ⟨depth, idle, blocked, link, Nat.min_le_right _ _, limit⟩

theorem changes_tickPort (p : PortId) (s : State) : Changes s (tickPort p s) := by
  unfold tickPort
  split_ifs
  · exact changes_stallExpire p s
  · exact changes_setPort Port.ok_stallNext
  · exact .refl

theorem changes_timeoutTag {s : State} {t : TagId} {f : IssuedTag} (issued : s.tag t = .issued f) :
    Changes s (timeoutTag t f s) := changes_faultTag issued .timeout .timeout rfl

theorem changes_tickTag (t : TagId) (s : State) : Changes s (tickTag t s) := by
  unfold tickTag
  split
  · rename_i f issued
    split
    · exact changes_timeoutTag issued
    · exact changes_setTag (fun _ => by rw [issued]; rfl) (by rw [issued]; rfl) fun free => by simp [free] at issued
  · exact .refl
  · exact .refl

theorem changes_countMicrosecond (s : State) : Changes s (countMicrosecond s) :=
  ((changes_tickPeriodTimers s).trans (foldl_changes (fun s p => changes_tickPort p s) _ _)).trans
    (foldl_changes (fun s t => changes_tickTag t s) _ _)

theorem leads_microsecondEvent (s : State) : Leads s (execMicrosecondEvent s) :=
  .next (((changes_takeTriggers s).trans (Change.of_quiet rfl)).trans (changes_countMicrosecond (beginMicrosecond (takeTriggers s))))

theorem leads_clockCycle (s : State) : Leads s (clockCycle s) :=
  .ite (fun _ => leads_microsecondEvent s) fun _ => .next (Change.of_quiet rfl)

theorem leads_stallExpiry (p : PortId) (s : State) : Leads s (execStallExpiry p s) :=
  .ite (fun _ => .next (changes_stallExpire p s)) fun _ => .stays s

theorem leads_responseTimeout (t : TagId) (s : State) : Leads s (execResponseTimeout t s) := by
  unfold execResponseTimeout
  split
  · exact .ite (fun _ => .next (changes_timeoutTag ‹_›)) fun _ => .stays s
  · exact .stays s
  · exact .stays s

/-! ### Power-on and soft reset (R183, R188) -/

theorem port_settlePorts (s : State) (p : PortId) : (settlePorts s).ports[p.val] = (s.port p).settle := by
  unfold settlePorts
  rw [getElem_tabulate]

theorem port_tabulate {s : State} {f : PortId → Port} (h : s.ports = tabulate f) (p : PortId) : s.port p = f p := by
  unfold State.port
  simp [h]

theorem leads_powerOnReset (s : State) : Leads s (execPowerOnReset s) := by
  unfold execPowerOnReset
  refine .next ((Change.reset s (settlePorts _).ports State.reset.tags _ Engine.powerOn (fun p _ => ?_) (fun t => ?_)
    (fun _ _ t => tag_reset t) (fun _ => (engineLaw_iff _).mp engineLaw_reset) rfl).changes.trans (Change.of_quiet rfl))
  · rw [port_settlePorts, port_tabulate rfl]
    exact Port.ok_powerOn_settle _
  · exact congrArg Tag.ended (tag_reset t)

theorem Tag.ended_orphan (v : Tag) : v.orphan.ended = true := by cases v <;> rfl

/-- The engine after a soft reset (R183). -/
def Engine.softReset (e : Engine) : Engine :=
  { Engine.powerOn with ringBase := e.ringBase, ringSize := e.ringSize, completionMode := e.completionMode }

theorem Engine.ok_softReset {e : Engine} (h : e.Ok) : e.softReset.Ok := by
  obtain ⟨size, base, -⟩ := h
  have pos := validRingSize_pos size
  exact ⟨size, base, pos, pos, pos, rfl⟩

theorem changes_softReset (s : State) : Changes s (softReset s) := by
  unfold softReset
  refine (Change.reset s (settlePorts (softResetClaim s)).ports (tabulate fun t => (s.tag t).orphan) s.link s.engine.softReset
    (fun p ok => ?_) (fun t => ?_) (fun down law t => ?_) Engine.ok_softReset rfl).changes.trans (Change.of_quiet rfl)
  · rw [port_settlePorts, port_tabulate rfl]
    exact Port.ok_softReset_settle ok
  · rw [getElem_tabulate]
    exact Tag.ended_orphan _
  · rw [getElem_tabulate]
    exact congrArg Tag.orphan (law down t)

/-! ### Memory port reset (R137) -/

theorem tag_haltIfEngine (f : IssuedTag) (cause : FaultCause) (s : State) (t : TagId) :
    (haltIfEngine f cause s).tag t = s.tag t := by
  unfold haltIfEngine
  split
  · rw [haltEngine_fixed]
    rfl
  · rfl

theorem tag_fallOutstanding (l : LeaseId) (s : State) (t : TagId) : (fallOutstanding l s).tag t = s.tag t := by
  rw [fallOutstanding_eq]
  rfl

theorem tag_abortTag (t u : TagId) (s : State) : (abortTag t s).tag u = if t = u then .free else s.tag u := by
  unfold abortTag
  split
  · rw [tag_haltIfEngine, tag_fallOutstanding, tag_setTag, tag_answerTag]
  · rename_i free
    split_ifs with same
    · exact same ▸ free
    · rfl
  · exact tag_setTag s t u .free

theorem tag_foldl_abortTag (tags : List TagId) (s : State) (u : TagId) :
    (tags.foldl (fun s t => abortTag t s) s).tag u = if u ∈ tags then .free else s.tag u := by
  induction tags generalizing s with
  | nil => rfl
  | cons t rest ih =>
    rw [List.foldl_cons, ih, tag_abortTag]
    by_cases same : t = u
    · simp [same]
    · simp [same, Ne.symm same]

theorem changes_linkReset {s : State} (free : ∀ t : TagId, s.tag t = .free) :
    Changes s (setSource .linkReset { s with link := .down }) :=
  (Change.link s .down fun _ => free).changes.trans (Change.of_quiet rfl)

theorem changes_resetMemoryPort (s : State) : Changes s (resetMemoryPort s) := by
  unfold resetMemoryPort
  refine (foldl_changes (fun s t => changes_abortTag t s) _ s).trans (changes_linkReset fun u => ?_)
  rw [tag_foldl_abortTag, if_pos (List.mem_finRange u)]

theorem changes_signalReset (s : State) : Changes s { s with memoryOut := s.memoryOut ++ [.resetSignal] } :=
  Change.of_quiet rfl

theorem changes_signalMemoryReset (s : State) : Changes s (signalMemoryReset s) := by
  unfold signalMemoryReset
  exact (changes_resetMemoryPort s).trans (changes_signalReset _)

/-! ### Client port reset (R80, R182) -/

theorem Tag.names_mute (p : PortId) (v : Tag) (l : LeaseId) : (v.mute p).names l = v.names l := by
  unfold Tag.mute
  split
  · split
    · split <;> rfl
    · rfl
  · rfl
  · rfl

theorem Tag.isEngine_mute (p : PortId) (v : Tag) : (v.mute p).isEngine = v.isEngine := by
  unfold Tag.mute
  split
  · split
    · split <;> rfl
    · rfl
  · rfl
  · rfl

theorem changes_muteTags (p : PortId) (s : State) : Changes s { s with tags := tabulate fun t => (s.tag t).mute p } :=
  (Change.tags s _
    (fun t l => by rw [getElem_tabulate]; exact Tag.names_mute p _ l)
    (fun t => by rw [getElem_tabulate]; exact Tag.isEngine_mute p _)
    fun t free => by rw [getElem_tabulate]; exact congrArg (Tag.mute p) free).changes

/-- A trigger keeps what the reset of a port reads of its unit. -/
theorem stallLimit_handTriggerIf (b : Bool) (s : State) (p : PortId) :
    ((handTriggerIf b s).port p).stallLimit = (s.port p).stallLimit := by
  cases b
  · rfl
  · show ((handTrigger s).port p).stallLimit = _
    rw [port_handTrigger]
    rfl

theorem changes_resetPort (p : PortId) (s : State) : Changes s (resetPort p s) := by
  have held := (Change.removeHeld s p).changes
  have dispatched := held.trans (Change.removeDispatched (removeHeld p s) p).changes
  have muted := dispatched.trans (changes_muteTags p _)
  refine (muted.trans (changes_handTriggerIf (portHasWork p s) _).toChanges).trans (changes_setPort fun ok => ?_)
  obtain ⟨-, -, -, -, -, limit⟩ := ok
  have same : (State.port { removeDispatched p (removeHeld p s) with
      tags := tabulate fun t => ((removeDispatched p (removeHeld p s)).tag t).mute p } p) = s.port p := by
    rw [removeDispatched_fixed]
    rfl
  rw [stallLimit_handTriggerIf, same] at limit
  exact Port.ok_flush_settle limit

theorem changes_resetPorts (mask : Byte) (s : State) : Changes s (resetPorts mask s) := by
  refine foldl_changes (fun s p => ?_) _ s
  split
  · exact changes_resetPort p s
  · exact .refl

end Sys2Proof.Machine
end

section
/-!
PROOF. The window writes as sequences of changes; every step is a sequence of changes; the laws of the lease records are kept.
-/

namespace Sys2Proof.Machine

/-! ### Engine controls (R143, R144) -/

/-- The engine's state changes with no request PLACED or ISSUED before or after. -/
theorem changes_setEngineState {s : State} {e : EngineState} (ok : s.engine.Ok → Engine.Ok { s.engine with state := e })
    (placed : e.placed = s.engine.state.placed) (issued : e.issued = s.engine.state.issued) : Changes s (s.setEngineState e) :=
  (Change.engine s _ ok placed issued).changes

/-- Where no command is in hand, an engine with the indices together goes on with the next command or is IDLE (R143). -/
theorem Engine.ok_begin {e : Engine} (size : validRingSize e.ringSize = true) (base : e.ringBase.toNat % 4096 = 0)
    (submit : e.submit < e.ringSize) (fetch : e.fetch < e.ringSize) (caught : e.complete = e.fetch) :
    Engine.Ok { e with state := if e.hasPending then beginFetch false else .idle } := by
  refine ⟨size, base, submit, fetch, show e.complete < e.ringSize by rwa [caught], ?_⟩
  dsimp only
  split_ifs with more
  · exact ⟨caught, by rw [caught]; exact (Engine.hasPending_iff submit fetch).mp more⟩
  · exact ⟨caught, not_not.mp fun moved => more ((Engine.hasPending_iff submit fetch).mpr moved)⟩

theorem changes_startEngine (s : State) : Changes s (startEngine s) := by
  unfold startEngine
  split
  · rename_i stopped
    refine changes_setEngineState (fun ok => ?_) ?_ ?_
    · obtain ⟨size, base, submit, fetch, -, caught⟩ := ok
      rw [stopped] at caught
      exact Engine.ok_begin size base submit fetch caught
    · rw [placed_begin, stopped]
      rfl
    · rw [issued_begin, stopped]
      rfl
  · exact .refl
  · exact .refl
  · exact .refl

theorem changes_stopEngine (s : State) : Changes s (stopEngine s) := by
  unfold stopEngine
  split
  · exact .refl
  · rename_i idle
    refine changes_setEngineState (fun ok => ?_) (by rw [idle]; rfl) (by rw [idle]; rfl)
    obtain ⟨size, base, submit, fetch, complete, caught⟩ := ok
    rw [idle] at caught
    exact ⟨size, base, submit, fetch, complete, caught.1⟩
  · rename_i step phase stopPending busy
    exact changes_setEngineState (Engine.ok_phase busy) (by rw [busy]; cases phase <;> rfl) (by rw [busy]; cases phase <;> rfl)
  · exact .refl

theorem changes_clearEngineHalt (s : State) : Changes s (clearEngineHalt s) := by
  unfold clearEngineHalt
  split
  · exact .refl
  · exact .refl
  · exact .refl
  · rename_i halted
    refine changes_setEngineState (fun ok => ?_) (by rw [halted]; rfl) (by rw [halted]; rfl)
    obtain ⟨size, base, submit, fetch, complete, caught⟩ := ok
    rw [halted] at caught
    exact ⟨size, base, submit, fetch, complete, caught⟩

/-! ### The ring (R141, R142) -/

theorem submitIgnored_false {e : Engine} {v : Nat} (h : submitIgnored e v = false) :
    v < e.ringSize ∧ ∀ step phase stopPending, e.state = .busy step phase stopPending → v ≠ e.complete := by
  unfold submitIgnored at h
  rw [Bool.or_eq_false_iff] at h
  obtain ⟨below, covers⟩ := h
  refine ⟨by simpa using below, fun step phase stopPending busy => ?_⟩
  rw [busy] at covers
  exact of_decide_eq_false covers

theorem Engine.ok_submit {e : Engine} {v : Nat} (taken : submitIgnored e v = false) (not_idle : e.state ≠ .idle) (h : e.Ok) :
    Engine.Ok { e with submit := v } := by
  obtain ⟨below, covers⟩ := submitIgnored_false taken
  obtain ⟨size, base, -, fetch, complete, indices⟩ := h
  refine ⟨size, base, below, fetch, complete, ?_⟩
  dsimp only
  cases state : e.state with
  | stopped => rwa [state] at indices
  | idle => exact absurd state not_idle
  | busy step phase stopPending =>
    rw [state] at indices
    have left := covers step phase stopPending state
    cases step with
    | fetch => exact ⟨indices.1, left⟩
    | snapshot => exact ⟨indices.1, left⟩
    | completion => exact ⟨indices.1, left⟩
  | halted => rwa [state] at indices

theorem changes_writeSubmit (v : Nat) (s : State) : Changes s (writeSubmit v s) := by
  unfold writeSubmit
  split
  · exact .refl
  · rename_i taken
    have taken : submitIgnored s.engine v = false := by simpa using taken
    have moved : s.engine.state ≠ .idle → Changes s { s with engine := { s.engine with submit := v } } := fun not_idle =>
      (Change.engine s _ (Engine.ok_submit taken not_idle) rfl rfl).changes
    dsimp only
    split
    · rename_i idle
      refine (Change.engine s _ (fun ok => ?_) ?_ ?_).changes
      · obtain ⟨size, base, -, fetch, -, caught⟩ := ok
        rw [idle] at caught
        exact Engine.ok_begin (e := { s.engine with submit := v }) size base (submitIgnored_false taken).1 fetch caught.1
      · rw [placed_begin, idle]
        rfl
      · rw [issued_begin, idle]
        rfl
    · exact moved (by simp [*])
    · exact moved (by simp [*])
    · exact moved (by simp [*])

/-- A ring base keeps its low 12 bits zero (R141). -/
theorem ringBaseWith_aligned {base : Address} (h : base.toNat % 4096 = 0) (word : Fin 2) (value : Word) :
    (ringBaseWith base word value).toNat % 4096 = 0 := by
  have low : ∀ x : Address, x.toNat % 4096 = (x.setWidth 12).toNat := fun x => (BitVec.toNat_setWidth 12 x).symm
  have base0 : base.setWidth 12 = 0#12 := BitVec.eq_of_toNat_eq (by rw [← low, h]; rfl)
  have low_word : (value &&& 0xFFFFF000#32).setWidth 12 = 0#12 := by
    rw [BitVec.setWidth_and, show (0xFFFFF000#32).setWidth 12 = 0#12 from rfl, BitVec.and_zero]
  have high_word : ((value.zeroExtend 40 &&& 0xFF#40) <<< 32).setWidth 12 = 0#12 := by
    ext i hi
    simp
  rw [low]
  unfold ringBaseWith
  split
  · rw [BitVec.setWidth_or, BitVec.setWidth_and, base0, BitVec.zero_and]
    exact congrArg BitVec.toNat
      ((BitVec.zero_or).trans ((BitVec.setWidth_setWidth_of_le _ (show 12 ≤ 40 by decide)).trans low_word))
  · rw [BitVec.setWidth_or, BitVec.setWidth_and, base0, high_word, BitVec.zero_and]
    rfl

/-- The engine after a write of RING_BASE or RING_SIZE in STOPPED: the three indices are 0 (R141). -/
theorem Engine.ok_rewound {e : Engine} (stopped : e.state = .stopped) {base : Address} {size : Nat}
    (aligned : base.toNat % 4096 = 0) (valid : validRingSize size = true) :
    Engine.Ok { e with ringBase := base, ringSize := size, submit := 0, fetch := 0, complete := 0 } := by
  have pos := validRingSize_pos valid
  refine ⟨valid, aligned, pos, pos, pos, ?_⟩
  dsimp only
  rw [stopped]

theorem changes_writeRingBase (word : Fin 2) (value : Word) (s : State) : Changes s (writeRingBase word value s) := by
  unfold writeRingBase
  split
  · rename_i stopped
    exact (Change.engine s _
      (fun ⟨size, base, _⟩ => Engine.ok_rewound stopped (ringBaseWith_aligned base word value) size) rfl rfl).changes
  · exact .refl

theorem changes_writeRingSize (value : Word) (s : State) : Changes s (writeRingSize value s) := by
  unfold writeRingSize
  split
  · rename_i taken
    obtain ⟨stopped, valid⟩ := taken
    exact (Change.engine s _ (fun ⟨_, base, _⟩ => Engine.ok_rewound stopped base valid) rfl rfl).changes
  · exact .refl

/-! ### The other registers (R25, R75, R132, R152, R179, R180) -/

theorem changes_writeIntStatus (value : Word) (s : State) : Changes s (writeIntStatus value s) := Change.of_quiet rfl

theorem changes_writeIntEnable (value : Word) (s : State) : Changes s (writeIntEnable value s) := Change.of_quiet rfl

theorem changes_writeTimebase (value : Word) (s : State) : Changes s (writeTimebase value s) := by
  unfold writeTimebase
  split
  · exact Change.of_quiet rfl
  · exact .refl

theorem changes_writeResponseTimeout (value : Word) (s : State) : Changes s (writeResponseTimeout value s) := by
  unfold writeResponseTimeout
  split
  · exact Change.of_quiet rfl
  · exact .refl

theorem changes_writeStallLimit (p : PortId) (value : Word) (s : State) : Changes s (writeStallLimit p value s) := by
  unfold writeStallLimit
  split
  · rename_i fits
    refine changes_setPort fun ok => ?_
    obtain ⟨depth, idle, blocked, link, timer, -⟩ := ok
    exact ⟨depth, idle, blocked, link, timer, fits⟩
  · exact .refl

theorem Engine.ok_completionMode {e : Engine} (mode : CompletionMode) (h : e.Ok) : Engine.Ok { e with completionMode := mode } := h

theorem changes_writeCompletionMode (value : Word) (s : State) : Changes s (writeCompletionMode value s) := by
  unfold writeCompletionMode
  split
  · exact (Change.engine s _ (Engine.ok_completionMode .each) rfl rfl).changes
  · exact (Change.engine s _ (Engine.ok_completionMode .caughtUp) rfl rfl).changes
  · exact .refl

theorem changes_takeControl (c : Control) (s : State) : Changes s (takeControl c s) := by
  cases c with
  | none => exact .refl
  | start => exact changes_startEngine s
  | stop => exact changes_stopEngine s
  | clearHalt => exact changes_clearEngineHalt s
  | softReset => exact changes_softReset s
  | memoryPortReset => exact changes_signalMemoryReset s
  | portReset mask => exact changes_resetPorts mask s

theorem changes_writeRegister (r : Register) (value : Word) (s : State) : Changes s (writeRegister r value s) := by
  cases r with
  | engineControl => exact changes_takeControl _ s
  | ringBase word => exact changes_writeRingBase word value s
  | ringSize => exact changes_writeRingSize value s
  | submitIndex => exact changes_writeSubmit _ s
  | intStatus => exact changes_writeIntStatus value s
  | intEnable => exact changes_writeIntEnable value s
  | completionMode => exact changes_writeCompletionMode value s
  | timebaseMhz => exact changes_writeTimebase value s
  | responseTimeout => exact changes_writeResponseTimeout value s
  | stallLimit p => exact changes_writeStallLimit p value s
  | engineState | fault | completeIndex | capacity | committed | attention _ | poolFree | tags | link => exact .refl

theorem changes_windowWrite (offset value : Word) (s : State) : Changes s (windowWrite offset value s) := by
  unfold windowWrite
  split
  · exact changes_writeRegister _ value s
  · exact .refl

theorem leads_readySignal (s : State) : Leads s (execReadySignal s) :=
  .ite (fun _ => .stays s) fun _ =>
    .next ((Change.link s .up fun down => absurd down (by decide)).changes.trans (Change.of_quiet rfl))

/-! ### Every command and every step -/

/-- Every command is a sequence of changes. -/
theorem leads_exec (c : Instr) (s : State) : Leads s (exec c s) := by
  cases c with
  | powerOnReset => exact leads_powerOnReset s
  | softReset => exact .next (changes_softReset s)
  | memoryPortReset => exact .next (changes_signalMemoryReset s)
  | memorySideReset => exact .next (changes_resetMemoryPort s)
  | portReset mask => exact .next (changes_resetPorts mask s)
  | clientPortReset p => exact .next (changes_resetPort p s)
  | start => exact .next (changes_startEngine s)
  | stop => exact .next (changes_stopEngine s)
  | clearHalt => exact .next (changes_clearEngineHalt s)
  | submitIndexWrite value => exact .next (changes_writeSubmit _ s)
  | ringBaseWrite word value => exact .next (changes_writeRingBase word value s)
  | ringSizeWrite value => exact .next (changes_writeRingSize value s)
  | intStatusWrite value => exact .next (changes_writeIntStatus value s)
  | intEnableWrite value => exact .next (changes_writeIntEnable value s)
  | timebaseMhzWrite value => exact .next (changes_writeTimebase value s)
  | registerWrite offset value => exact .next (changes_windowWrite offset value s)
  | microsecondEvent => exact leads_microsecondEvent s
  | periodTimerExpiry l => exact leads_periodTimerExpiry l s
  | periodEnd l => exact leads_periodEnd l s
  | stallExpiry p => exact leads_stallExpiry p s
  | responseTimeout t => exact leads_responseTimeout t s
  | requestArrival p r => exact leads_requestArrival p r s
  | portHeadExamination => exact leads_portHeadExamination s
  | releasedEntryExamination => exact leads_releasedEntryExamination s
  | engineRequestExamination => exact leads_engineRequestExamination s
  | issue => exact leads_issue s
  | memoryResponse t status data => exact leads_memoryResponse t status data s
  | readySignal => exact leads_readySignal s
  | nop body => exact .next (changes_answerFetch _ (changes_takeNop _) s)
  | openLease body => exact .next (changes_answerFetch _ (changes_takeOpenLease _) s)
  | resizeLease body => exact .next (changes_answerFetch _ (changes_takeResizeLease _) s)
  | renewLease body => exact .next (changes_answerFetch _ (changes_takeRenewLease _) s)
  | suspendLease body => exact .next (changes_answerFetch _ (changes_takeSuspendLease _) s)
  | resumeLease body => exact .next (changes_answerFetch _ (changes_takeResumeLease _) s)
  | retireLease body => exact .next (changes_answerFetch _ (changes_takeRetireLease _) s)
  | bindStream body => exact .next (changes_answerFetch _ (changes_takeBindStream _) s)
  | unbindStream body => exact .next (changes_answerFetch _ (changes_takeUnbindStream _) s)
  | queryLease body => exact .next (changes_answerFetch _ (changes_takeQueryLease _) s)
  | ackAttention body => exact .next (changes_answerFetch _ (changes_takeAckAttention _) s)
  | setCapacity body => exact .next (changes_answerFetch _ (changes_takeSetCapacity _) s)
  | readyLevelDeasserted => exact .next (Change.of_quiet rfl)
  | unknownCommandCode code body => exact .next (changes_answerFetch _ (changes_takeRecord _) s)

/-- Every step is a sequence of changes. -/
theorem step_changes {s t : State} (h : step s = .next t) : Changes s t := by
  unfold step at h
  split at h
  · exact leads_clockCycle s t h
  · exact (Change.of_quiet (s := s) rfl).trans (leads_exec _ _ t h)

end Sys2Proof.Machine

open Sys2Proof Sys2Proof.Machine

/-- Settles O50: every change a step is made of keeps the credit law of each record. -/
theorem creditLawIsKept : Obligations.CreditLawIsKept := by
  unfold Obligations.CreditLawIsKept
  exact fun s t law stepped => (step_changes stepped).keep creditLaw_change law

/-- Settles O55: no change names lease 0 in a way that its record, hold queue, release or slots would show. -/
theorem leaseZeroLawIsKept : Obligations.LeaseZeroLawIsKept := by
  unfold Obligations.LeaseZeroLawIsKept
  exact fun s t law stepped =>
    (leaseZeroLaw_iff t).mpr ((step_changes stepped).keep leaseZero_change ((leaseZeroLaw_iff s).mp law))

/-- Settles O60: each change a step is made of keeps all the laws together. -/
theorem safeStateIsKept : Obligations.SafeStateIsKept := by
  unfold Obligations.SafeStateIsKept
  exact fun s t safe stepped => (step_changes stepped).keep safeState_change safe

end

section
/-!
PROOF. The period end that refills a lease, the one that expires it, and the period end that no lease takes (O16, O18).
-/

namespace Sys2Proof.Machine

/-! ### The new period of a lease that is not SHARED (R32, R34, R112) -/

/-- A release trigger writes the releases alone. -/
theorem releaseTrigger_eq (s : State) (l : LeaseId) : releaseTrigger l s =
    { s with releases := if (s.lease l).state = .opened ∧ s.holdQueue l ≠ [] then s.releases.set l.val .running else s.releases } := by
  unfold releaseTrigger
  split <;> rfl

/-- A new period of a lease that is not SHARED is its refill (R32, R34). -/
theorem Lease.newPeriod_of_not_shared {r : Lease} (h : r.cls ≠ .shared) : r.newPeriod = r.refill := by
  unfold Lease.newPeriod
  cases hc : r.cls with
  | guaranteed => rfl
  | capped => rfl
  | shared => exact absurd hc h

/-- The period of a lease that is not SHARED begins with the refill, the release trigger and the re-examination trigger. -/
theorem beginPeriod_of_not_shared {s : State} {l : LeaseId} {r : Lease} (hr : s.lease l = r) (hc : r.cls ≠ .shared) :
    beginPeriod l s = handTrigger (releaseTrigger l (s.setLease l r.refill)) := by
  subst hr
  unfold beginPeriod
  simp only [hc, false_and, if_false, Lease.newPeriod_of_not_shared hc]

/-- A period end that does not expire refills a lease that is not SHARED (R32, R34). -/
theorem takePeriodEnd_refills {s : State} {l : LeaseId} (hc : (s.lease l).cls ≠ .shared)
    (hp : (s.lease l).term = 0 ∨ 1 < (s.lease l).periodsRemaining) :
    takePeriodEnd l s = handTrigger (releaseTrigger l (s.setLease l (s.lease l).countedOff.refill)) := by
  rw [takePeriodEnd_of_not_expiring hp, beginPeriod_of_not_shared (lease_setLease_self s l (s.lease l).countedOff) hc,
    setLease_setLease]

/-! ### The period end that expires (R32, R33), and the one that is not taken (R29, R38) -/

/-- The last period of a termed lease ends in drain start, with periods remaining at 0 (R32, R33). -/
theorem takePeriodEnd_of_expiring {s : State} {l : LeaseId} (ht : (s.lease l).term ≠ 0)
    (hp : (s.lease l).periodsRemaining ≤ 1) :
    takePeriodEnd l s = drainStart l .expired (s.setLease l { s.lease l with periodsRemaining := 0 }) := by
  have last : (s.lease l).periodsRemaining - 1 = 0 := by omega
  unfold takePeriodEnd countPeriod
  rw [if_neg ht, last]
  exact if_pos (by rw [lease_setLease_self])

/-- No period end is taken without one raised, nor on a lease that is neither OPEN nor SUSPENDED (R29, R38). -/
theorem exec_periodEnd_of_not_taken {s : State} {l : LeaseId} (h : (s.timer l).raised = 0 ∨ (s.lease l).active = false) :
    exec (.periodEnd l) s = .next s := by
  refine if_neg ?_
  rintro ⟨raised, active⟩
  rcases h with none | inactive
  · omega
  · rw [inactive] at active
    contradiction

end Sys2Proof.Machine

open Sys2Proof Sys2Proof.Machine

/-- Settles O16: the claim is that of `takePeriodEnd_refills`, read off table by table. -/
theorem periodEndRefills : Obligations.PeriodEndRefills := by
  unfold Obligations.PeriodEndRefills
  intro s l raised active not_shared not_last
  have taken := takePeriodEnd_refills (s := s.setTimer l { s.timer l with raised := (s.timer l).raised - 1 })
    not_shared not_last
  refine ⟨_, (exec_periodEnd raised active).trans (congrArg Host.Outcome.next taken), ?_, ?_, ?_, ?_⟩
  · rw [releaseTrigger_eq]
    rfl
  · rw [releaseTrigger_leases]
    rfl
  · rw [releaseTrigger_timers]
    rfl
  · rw [releaseTrigger_releases, lease_setLease_self]
    rfl

/-- Settles O18: the last period by `takePeriodEnd_of_expiring`, no period end by `exec_periodEnd_of_not_taken`. -/
theorem periodEndExpires : Obligations.PeriodEndExpires := by
  unfold Obligations.PeriodEndExpires
  intro s l
  constructor
  · intro raised active termed last
    exact (exec_periodEnd raised active).trans (congrArg Host.Outcome.next
      (takePeriodEnd_of_expiring (s := s.setTimer l { s.timer l with raised := (s.timer l).raised - 1 }) termed last))
  · rintro (none | free | draining)
    · exact exec_periodEnd_of_not_taken (.inl none)
    · exact exec_periodEnd_of_not_taken (.inr (by simp [Lease.active, free]))
    · exact exec_periodEnd_of_not_taken (.inr (by simp [Lease.active, draining]))

end

section
/-!
PROOF. The writes of TIMEBASE_MHZ, the timing and mode registers and the registers that take no write (O14).
-/

namespace Sys2Proof.Machine

/-! ### Writes by register (R182) -/

/-- A write at a register's offset is the write of that register. -/
theorem exec_registerWrite {offset : Word} {r : Register} (h : registerAt offset = some r) (v : Word) (s : State) :
    exec (.registerWrite offset v) s = .next (writeRegister r v s) := by
  simp only [exec, execRegisterWrite, windowWrite, h]

/-- A write at an offset that names no register is ignored. -/
theorem exec_registerWrite_unnamed {offset : Word} (h : registerAt offset = none) (v : Word) (s : State) :
    exec (.registerWrite offset v) s = .next s := by
  simp only [exec, execRegisterWrite, windowWrite, h]

/-- A read at an offset that names no register returns 0. -/
theorem windowRead_unnamed {offset : Word} (h : registerAt offset = none) (s : State) : windowRead s offset = 0 := by
  simp only [windowRead, h]

/-- The stall limits stand at 0x040 to 0x05C in port order (R75, Table 11-2). -/
theorem registerAt_stallLimit (p : PortId) : registerAt (0x040 + 4 * BitVec.ofNat 32 p.val) = some (.stallLimit p) := by
  fin_cases p <;> rfl

/-- The registers of Table 11-2 that a write cannot change. -/
def Register.readOnly : Register → Bool
  | .engineState | .fault | .completeIndex | .capacity | .committed | .attention _ | .poolFree | .tags | .link => true
  | _ => false

/-- A read-only register ignores a write. -/
theorem writeRegister_readOnly {r : Register} (h : r.readOnly = true) (v : Word) (s : State) : writeRegister r v s = s := by
  cases r with
  | engineState | fault | completeIndex | capacity | committed | attention | poolFree | tags | link => rfl
  | engineControl | ringBase | ringSize | submitIndex | intStatus | intEnable | completionMode | timebaseMhz
  | responseTimeout | stallLimit => contradiction

/-- The read-only registers by their offsets (Table 11-2). -/
theorem registerAt_readOnly {offset : Word}
    (h : offset ∈ ([0x004, 0x008, 0x020, 0x060, 0x064, 0x068, 0x06C, 0x070, 0x074, 0x078] : List Word)) :
    ∃ r, registerAt offset = some r ∧ r.readOnly = true := by
  simp only [List.mem_cons, List.not_mem_nil, or_false] at h
  rcases h with rfl | rfl | rfl | rfl | rfl | rfl | rfl | rfl | rfl | rfl <;> exact ⟨_, rfl, rfl⟩

/-! ### Values (R152, R182) -/

/-- A write of COMPLETION_MODE by the word written. -/
theorem writeCompletionMode_eq (v : Word) (s : State) : writeCompletionMode v s =
    if v = 0 then { s with engine := { s.engine with completionMode := .each } }
    else if v = 1 then { s with engine := { s.engine with completionMode := .caughtUp } } else s := by
  unfold writeCompletionMode
  split
  · next h => rw [if_pos (BitVec.eq_of_toNat_eq h)]
  · next h =>
    have one : v = 1 := BitVec.eq_of_toNat_eq h
    subst one
    rfl
  · next not_zero not_one =>
    have h0 : v ≠ 0 := fun e => not_zero (congrArg BitVec.toNat e)
    have h1 : v ≠ 1 := fun e => not_one (congrArg BitVec.toNat e)
    rw [if_neg h0, if_neg h1]

/-- The codes 0 and 7 of ENGINE_CONTROL name no control. -/
theorem controlOf_none {v : Word} (h : v.toNat % 8 = 0 ∨ v.toNat % 8 = 7) : controlOf v = .none := by
  have code : (v.extractLsb' 0 3).toNat = v.toNat % 8 := by simp
  unfold controlOf
  rw [code]
  rcases h with h | h <;> (rw [h]; rfl)

end Sys2Proof.Machine

open Sys2Proof Sys2Proof.Machine

/-- Settles O14: the register at each offset, then what the write of that register takes. -/
theorem timebaseAndRegisterWrites : Obligations.TimebaseAndRegisterWrites := by
  unfold Obligations.TimebaseAndRegisterWrites
  intro s v
  refine ⟨rfl, exec_registerWrite (r := .responseTimeout) rfl v s, fun p => exec_registerWrite (registerAt_stallLimit p) v s, ?_, ?_, ?_,
    fun offset unnamed => windowRead_unnamed unnamed s⟩
  · rw [exec_registerWrite (r := .completionMode) rfl, writeRegister, writeCompletionMode_eq]
  · intro code
    rw [exec_registerWrite (r := .engineControl) rfl, writeRegister, controlOf_none code, takeControl]
  · rintro offset (listed | unnamed)
    · obtain ⟨r, named, readOnly⟩ := registerAt_readOnly listed
      rw [exec_registerWrite named, writeRegister_readOnly readOnly]
    · exact exec_registerWrite_unnamed unnamed v s

end

section
/-!
PROOF. The microsecond event: what each period timer, port unit and tag makes of it, and the rows of the expiries (O15).
-/

namespace Sys2Proof.Machine

/-! ### The divider (R25) -/

/-- On an empty queue the step is one core clock cycle of the divider (entry 5). -/
theorem step_idle {s : State} (h : s.pending = []) : step s = clockCycle s := by
  unfold step
  rw [h]

/-! ### Period timers (R28) -/

/-- A period timer at a microsecond event: stopped, short of its length, or at it. -/
theorem PeriodTimer.tick_eq (t : PeriodTimer) (k : Nat) : t.tick k =
    if t.running = false then t
    else if t.count + 1 < 16 * 2 ^ k then { t with count := t.count + 1 }
    else { t with count := 0, raised := t.raised + 1 } := by
  simp only [PeriodTimer.tick, periodLength, Bool.not_eq_true', ← Nat.not_lt, ite_not]

theorem timer_tickPeriodTimers (s : State) (l : LeaseId) :
    (tickPeriodTimers s).timer l = (s.timer l).tick (s.lease l).k := by
  simp only [State.timer, tickPeriodTimers, getElem_tabulate]

/-- PERIOD_TIMER_EXPIRY is the count that brings a running timer to its length. -/
theorem exec_periodTimerExpiry (s : State) (l : LeaseId) : exec (.periodTimerExpiry l) s = .next
    (if (s.timer l).running = true ∧ 16 * 2 ^ (s.lease l).k ≤ (s.timer l).count + 1 then
      s.setTimer l { s.timer l with count := 0, raised := (s.timer l).raised + 1 } else s) := by
  by_cases due : (s.timer l).running = true ∧ 16 * 2 ^ (s.lease l).k ≤ (s.timer l).count + 1
  · obtain ⟨running, reached⟩ := due
    have tick : (s.timer l).tick (s.lease l).k = { s.timer l with count := 0, raised := (s.timer l).raised + 1 } := by
      rw [PeriodTimer.tick_eq, if_neg (by simp [running]), if_neg (Nat.not_lt.mpr reached)]
    rw [if_pos ⟨running, reached⟩, ← tick]
    exact if_pos ⟨running, reached⟩
  · rw [if_neg due]
    exact if_neg due

/-! ### Stall timers (R74) -/

/-- A stall expiry is due on a BLOCKED head with a limit that is not 0 and that the count reaches. -/
theorem Port.stallDue_iff (u : Port) : u.stallDue = true ↔
    u.head = .blocked ∧ u.fifo ≠ [] ∧ u.stallLimit ≠ 0 ∧ u.stallLimit ≤ min (u.stallTimer + 1) 65535 := by
  simp only [Port.stallDue, Bool.and_eq_true, decide_eq_true_eq, Bool.not_eq_true', List.isEmpty_eq_false_iff]
  constructor
  · rintro ⟨⟨⟨blocked, limited⟩, reached⟩, held⟩
    exact ⟨blocked, held, limited, reached⟩
  · rintro ⟨blocked, held, limited, reached⟩
    exact ⟨⟨⟨blocked, limited⟩, reached⟩, held⟩

/-- A stall expiry that is due is what the microsecond event does to the port. -/
theorem exec_stallExpiry_of_due {s : State} {p : PortId} (h : (s.port p).stallDue = true) :
    exec (.stallExpiry p) s = .next (tickPort p s) := by
  simp only [exec, execStallExpiry, tickPort, h, if_true]

/-- A stall expiry that is not due changes nothing. -/
theorem exec_stallExpiry_of_not_due {s : State} {p : PortId} (h : ¬ (s.port p).stallDue = true) :
    exec (.stallExpiry p) s = .next s := if_neg h

/-- With no stall expiry due, the microsecond event counts a BLOCKED head alone. -/
theorem tickPort_of_not_due {s : State} {p : PortId} (h : ¬ (s.port p).stallDue = true) :
    tickPort p s = if (s.port p).head = .blocked then
      s.setPort p { s.port p with stallTimer := min ((s.port p).stallTimer + 1) 65535 } else s := if_neg h

/-! ### Response timers (R132) -/

/-- A response timeout is due with a limit that is not 0 and that the timer reaches. -/
theorem timeoutDue_iff (limit : Nat) (f : IssuedTag) :
    timeoutDue limit f = true ↔ limit ≠ 0 ∧ limit ≤ min (f.timer + 1) 65535 := by
  simp only [timeoutDue, Bool.and_eq_true, decide_eq_true_eq]
  rfl

/-- A response timeout that is due is what the microsecond event does to the tag. -/
theorem exec_responseTimeout_of_due {s : State} {k : TagId} {f : IssuedTag} (issued : s.tag k = .issued f)
    (h : timeoutDue s.responseTimeout f = true) : exec (.responseTimeout k) s = .next (tickTag k s) := by
  simp only [exec, execResponseTimeout, tickTag, issued, h, if_true]

/-- With no response timeout due, its row changes nothing and the microsecond event counts the ISSUED tag. -/
theorem responseTimeout_of_not_due {s : State} {k : TagId} {f : IssuedTag} (issued : s.tag k = .issued f)
    (h : ¬ timeoutDue s.responseTimeout f = true) :
    exec (.responseTimeout k) s = .next s ∧
      tickTag k s = s.setTag k (.issued { f with timer := min (f.timer + 1) 65535 }) := by
  simp only [exec, execResponseTimeout, tickTag, issued]
  exact ⟨if_neg h, if_neg h⟩

/-- A tag that is not ISSUED takes no response timeout and no count. -/
theorem responseTimeout_of_not_issued {s : State} {k : TagId} (h : ∀ f, s.tag k ≠ .issued f) :
    exec (.responseTimeout k) s = .next s ∧ tickTag k s = s := by
  cases v : s.tag k with
  | issued f => exact absurd v (h f)
  | free => simp only [exec, execResponseTimeout, tickTag, v, and_self]
  | orphaned => simp only [exec, execResponseTimeout, tickTag, v, and_self]

end Sys2Proof.Machine

open Sys2Proof Sys2Proof.Machine

/-- Settles O15: the divider and the period timers by their equations, each port and each tag by whether its expiry is due. -/
theorem microsecondEventCountsEveryTimer : Obligations.MicrosecondEventCountsEveryTimer := by
  unfold Obligations.MicrosecondEventCountsEveryTimer
  refine ⟨fun s idle => step_idle idle, fun s => ?_, fun s p => ?_, fun s k => ?_, exec_periodTimerExpiry⟩
  · refine ⟨tickPeriodTimers (beginMicrosecond (takeTriggers s)), rfl, rfl, fun l => ?_⟩
    rw [timer_tickPeriodTimers]
    exact PeriodTimer.tick_eq _ _
  · simp only [← Port.stallDue_iff]
    split
    · exact exec_stallExpiry_of_due ‹_›
    · exact ⟨exec_stallExpiry_of_not_due ‹_›, tickPort_of_not_due ‹_›⟩
  · split
    · next f issued =>
      simp only [← timeoutDue_iff]
      split
      · exact exec_responseTimeout_of_due issued ‹_›
      · exact responseTimeout_of_not_due issued ‹_›
    · next free => exact responseTimeout_of_not_issued fun f => by simp [free]
    · next orphaned => exact responseTimeout_of_not_issued fun f => by simp [orphaned]

end

section
/-!
PROOF. The committed sum and the capacity figure: the law that every step keeps (O54) and SET_CAPACITY (O47).
-/

namespace Sys2Proof.Machine

/-! ### SET_CAPACITY (R62, R176) -/

/-- The end of the fetch leaves the committed sum alone. -/
theorem committed_fetchEnded (s : State) (t : TagId) : (fetchEnded s t).committed = s.committed := rfl

/-- A value that covers the committed sum becomes the capacity figure. -/
theorem takeSetCapacity_of_covered {r : Beat} {s : State} (passed : recordRefusal r = none)
    (covered : s.committed ≤ capacityValue r) :
    takeSetCapacity r s = okCommand s.committed { s with capacity := capacityValue r } := by
  simp only [takeSetCapacity, passed, if_pos covered]

/-- A value below the committed sum is refused OVER_CAPACITY. -/
theorem takeSetCapacity_of_short {r : Beat} {s : State} (passed : recordRefusal r = none)
    (short : ¬ s.committed ≤ capacityValue r) : takeSetCapacity r s = overCapacity s := by
  simp only [takeSetCapacity, passed, if_neg short]

/-- The row of SET_CAPACITY is the claim that answers the fetch with its record. -/
theorem exec_setCapacity {s : State} {t : TagId} {f : IssuedTag} {stopPending : Bool}
    (stands : FetchStands s t f stopPending) (body : RecordBody) : exec (.setCapacity body) s =
      .next (executeFetched (commandRecord 11 body) takeSetCapacity stopPending (fetchEnded s t)) :=
  congrArg Host.Outcome.next (answerFetch_of_stands stands _ _)

end Sys2Proof.Machine

open Sys2Proof Sys2Proof.Machine

/-- Settles O54: every change a step is made of moves the committed sum by what it moves in the record it changes, and the checks of
OPEN_LEASE, RESIZE_LEASE and SET_CAPACITY hold it at or below the capacity figure (`committedLaw_change`). -/
theorem committedLawIsKept : Obligations.CommittedLawIsKept := by
  unfold Obligations.CommittedLawIsKept
  exact fun s t law stepped => (step_changes stepped).keep committedLaw_change law

/-- Settles O47: the comparison meets the committed sum as it stood, which the end of the fetch leaves alone. -/
theorem setCapacityAgainstCommittedSum : Obligations.SetCapacityAgainstCommittedSum := by
  unfold Obligations.SetCapacityAgainstCommittedSum
  intro s t f stopPending body stands r value s0 passed
  rw [exec_setCapacity stands, ← committed_fetchEnded s t]
  by_cases covered : s0.committed ≤ value
  · rw [if_pos covered, executeFetched_eq _ _ _ _ _ _ _ (takeSetCapacity_of_covered passed covered)]
    rfl
  · rw [if_neg covered, executeFetched_eq _ _ _ _ _ _ _ (takeSetCapacity_of_short passed covered)]

end

section
/-!
PROOF. The laws of the stream map and of the ports, kept by every step (O51, O58).
-/

open Sys2Proof Sys2Proof.Machine

/-- Settles O51: every change a step is made of keeps the two laws of the stream map together (`streamMapLaw_change`). -/
theorem streamMapLawIsKept : Obligations.StreamMapLawIsKept := by
  unfold Obligations.StreamMapLawIsKept
  exact fun s t slots counts stepped => (step_changes stepped).keep streamMapLaw_change ⟨slots, counts⟩

/-- Settles O58: a change of a port unit keeps the unit's law, and every other change leaves the units (`portLaw_change`). -/
theorem portLawIsKept : Obligations.PortLawIsKept := by
  unfold Obligations.PortLawIsKept
  exact fun s t law stepped => (step_changes stepped).keep portLaw_change law

end

section
/-!
PROOF. What a re-examination trigger changes and how the ports take it (O27), a stall expiry (O19), and how a port accepts what
stands on its link (O21).
-/

namespace Sys2Proof.Machine

/-! ### Triggers (R72, R103) -/

/-- A trigger changes the port units, the releases and the engine's request, and nothing else. -/
theorem handTrigger_fixed (s : State) : handTrigger s =
    { s with ports := (handTrigger s).ports, releases := (handTrigger s).releases, engine := (handTrigger s).engine } := rfl

/-- A taking of triggers changes the port units and uses up the front of the delays. -/
theorem takeTriggers_fixed (s : State) :
    takeTriggers s = { s with ports := (takeTriggers s).ports, delayed := s.delayed.tail } := rfl

/-! ### Stall expiries (R74, R76) -/

/-- The refusal counted at a stall expiry: the examined lease's, unless it is FREE. -/
theorem countStall_eq {u : Port} {l : LeaseId} (examined : u.examined = some l) (s : State) : countStall u s = { s with
    leases := if (s.lease l).state = .free then s.leases else s.leases.set l.val ((s.lease l).countRefusals 1) } := by
  unfold countStall
  rw [examined]
  dsimp only
  split <;> rfl

/-- The port unit whose head leaves, when the next request of the FIFO is known (R70). -/
theorem Port.depart_eq {u : Port} {r : PortRequest} {rest : List PortRequest} (head : u.fifo = r :: rest) :
    u.depart = Port.settle { u with
      fifo := rest
      head := if rest = [] then .idle else .examining
      stallTimer := 0
      examined := none } := by
  unfold Port.depart Port.dropHead
  rw [head]
  rfl

/-- All that a stall expiry does. -/
theorem stallExpire_eq {s : State} {p : PortId} {r : PortRequest} {rest : List PortRequest} {l : LeaseId}
    (head : (s.port p).fifo = r :: rest) (examined : (s.port p).examined = some l) : stallExpire p s = { s with
      leases := if (s.lease l).state = .free then s.leases else s.leases.set l.val ((s.lease l).countRefusals 1)
      intStatus := s.intStatus ||| Source.portStall.mask
      sent := s.sent ++ [{ port := p, clientId := r.clientId, status := .refusedStalled, data := [] }]
      ports := s.ports.set p.val (s.port p).depart } := by
  unfold stallExpire
  rw [head]
  dsimp only
  rw [countStall_eq examined]
  rfl

/-! ### Accepting from the link (R69, R70, entry 12) -/

/-- A request that joins a FIFO leaves the triggers on their way to the port. -/
theorem Port.triggers_accept (u : Port) (r : PortRequest) : (u.accept r).triggers = u.triggers := by
  unfold Port.accept
  split <;> rfl

theorem acceptWaiting_triggers (w : List PortRequest) (u : Port) : (acceptWaiting w u).triggers = u.triggers := by
  induction w generalizing u with
  | nil => rfl
  | cons r rest ih =>
    unfold acceptWaiting
    split
    · rw [ih, Port.triggers_accept]
    · rfl

/-- Accepting fills the FIFO to 8 as far as the link has requests. -/
theorem acceptWaiting_fifo_length (w : List PortRequest) (u : Port) (h : u.fifo.length ≤ 8) :
    (acceptWaiting w u).fifo.length = min 8 (u.fifo.length + w.length) := by
  have kept := congrArg List.length (acceptWaiting_requests w u)
  have depth : (acceptWaiting w u).fifo.length ≤ 8 := acceptWaiting_length w u h
  simp only [List.length_append] at kept
  rcases acceptWaiting_full w u with empty | full
  · rw [empty] at kept
    simp only [List.length_nil] at kept
    omega
  · have full8 : 8 ≤ (acceptWaiting w u).fifo.length := full
    omega

/-- The port with nothing held back on its link stands. -/
theorem Port.settle_of_link_nil {u : Port} (h : u.link = []) : u.settle = u := by
  unfold Port.settle acceptWaiting
  rw [h]
  exact congrArg (fun w => { u with link := w }) h.symm

/-- A full FIFO accepts nothing (R69). -/
theorem acceptWaiting_of_full {u : Port} (full : 8 ≤ u.fifo.length) (w : List PortRequest) :
    acceptWaiting w u = { u with link := w } := by
  cases w with
  | nil => rfl
  | cons r rest => exact if_neg (Nat.not_lt.mpr full)

/-- A FIFO with room accepts the first request of the link (R69). -/
theorem acceptWaiting_of_room {u : Port} (room : u.fifo.length < 8) (r : PortRequest) (rest : List PortRequest) :
    acceptWaiting (r :: rest) u = acceptWaiting rest (u.accept r) := if_pos room

/-- A request becomes the head of an empty FIFO (R70). -/
theorem Port.accept_of_empty {u : Port} (empty : u.fifo = []) (r : PortRequest) :
    u.accept r = { u with fifo := [r], head := .examining, stallTimer := 0, examined := none } := by
  unfold Port.accept
  rw [empty]

/-- A request joins a FIFO that is not empty at its tail (R69). -/
theorem Port.accept_of_not_empty {u : Port} (some_head : u.fifo ≠ []) (r : PortRequest) :
    u.accept r = { u with fifo := u.fifo ++ [r] } := by
  unfold Port.accept
  split
  · exact absurd ‹_› some_head
  · rfl

/-- The first request of a link becomes head of an empty FIFO. -/
theorem Port.settle_head_of_empty {u : Port} (empty : u.fifo = []) (held : u.link ≠ []) :
    u.settle.head = .examining ∧ u.settle.stallTimer = 0 ∧ u.settle.examined = none := by
  obtain ⟨r, rest, link⟩ := List.exists_cons_of_ne_nil held
  unfold Port.settle
  rw [link, acceptWaiting_of_room (by simp [empty]), Port.accept_of_empty empty]
  obtain ⟨-, kept⟩ := acceptWaiting_head rest { u with fifo := [r], head := .examining, stallTimer := 0, examined := none }
  exact (kept (by simp)).2

/-- A request joins a FIFO without regard to the link. -/
theorem Port.accept_withLink (u : Port) (w : List PortRequest) (r : PortRequest) :
    Port.accept { u with link := w } r = { u.accept r with link := w } := by
  unfold Port.accept
  dsimp only
  split <;> rfl

theorem Port.link_accept (u : Port) (r : PortRequest) : (u.accept r).link = u.link := by
  unfold Port.accept
  split <;> rfl

/-- A request that arrives on an empty link joins the FIFO while that has room (R69). -/
theorem Port.arrive_of_room {u : Port} (link : u.link = []) (room : u.fifo.length < 8) (r : PortRequest) :
    u.arrive r = u.accept r := by
  have taken : u.arrive r = { Port.accept { u with link := [r] } r with link := [] } := by
    unfold Port.arrive Port.settle
    rw [link]
    exact acceptWaiting_of_room (u := { u with link := [r] }) room r []
  rw [taken, Port.accept_withLink]
  exact congrArg (fun w => { u.accept r with link := w }) ((Port.link_accept u r).trans link).symm

/-- A request that arrives at a full FIFO stays on the link (R69). -/
theorem Port.arrive_of_full {u : Port} (full : 8 ≤ u.fifo.length) (r : PortRequest) :
    u.arrive r = { u with link := u.link ++ [r] } :=
  acceptWaiting_of_full (u := { u with link := u.link ++ [r] }) full _

/-- A whole request is taken by its port (R68). -/
theorem exec_requestArrival_of_whole {r : PortRequest} (whole : r.whole = true) (s : State) (p : PortId) :
    exec (.requestArrival p r) s = .next (s.setPort p ((s.port p).arrive r)) := by
  have beats : r.data.length = r.expectedBeats := by simpa [PortRequest.whole] using whole
  exact if_pos beats

end Sys2Proof.Machine

open Sys2Proof Sys2Proof.Machine

/-- Settles O27: both halves of a trigger by their equations on one port unit and one release. -/
theorem triggerReachesEveryWaiter : Obligations.TriggerReachesEveryWaiter := by
  unfold Obligations.TriggerReachesEveryWaiter
  intro s
  refine ⟨handTrigger_fixed s, port_handTrigger s, fun l => ?_, engine_handTrigger s, takeTriggers_fixed s, fun p => ?_⟩
  · rw [release_handTrigger, ReleaseState.retrigger_eq]
  · rw [port_takeTriggers]
    exact Port.takeTriggers_eq _ _

/-- Settles O19: the expiry is due, and what it does is `stallExpire_eq`. -/
theorem stallExpiryRefusesHead : Obligations.StallExpiryRefusesHead := by
  unfold Obligations.StallExpiryRefusesHead
  intro s p r rest l blocked head examined limited reached
  have due : (s.port p).stallDue = true := (Port.stallDue_iff _).mpr ⟨blocked, by simp [head], limited, reached⟩
  have taken : exec (.stallExpiry p) s = .next (stallExpire p s) := if_pos due
  rw [taken, stallExpire_eq head examined, Port.depart_eq head]
  rfl

/-- Settles O21: an arrival by the room of the FIFO, and the taking from the link by the lemmas on `acceptWaiting`. -/
theorem requestArrivalAcceptedOrHeldBack : Obligations.RequestArrivalAcceptedOrHeldBack := by
  unfold Obligations.RequestArrivalAcceptedOrHeldBack
  refine ⟨fun s p r whole link => ⟨fun empty => ?_, fun ⟨some_head, room⟩ => ?_⟩, fun s p r whole full => ?_, fun u => ?_⟩
  · rw [exec_requestArrival_of_whole whole, Port.arrive_of_room link (by simp [empty]), Port.accept_of_empty empty]
  · rw [exec_requestArrival_of_whole whole, Port.arrive_of_room link room,
      Port.accept_of_not_empty (List.ne_nil_of_length_pos some_head)]
  · rw [exec_requestArrival_of_whole whole, Port.arrive_of_full full]
  · obtain ⟨limit, head⟩ := acceptWaiting_head u.link u
    exact ⟨acceptWaiting_requests _ _, acceptWaiting_fifo_length _ _, limit, acceptWaiting_triggers _ _,
      Port.settle_of_link_nil, Port.settle_head_of_empty, fun some_head => (head some_head).2⟩

end

section
/-!
PROOF. Falls of outstanding taken one after another.
-/

namespace Sys2Proof.Machine

/-! ### Falls of outstanding one after another (R19, R123) -/

theorem Lease.reasons_eq_zero_of_fallenBy {r : Lease} {n : Nat} (h : (r.fallenBy n).reasons = 0) : r.reasons = 0 := by
  unfold Lease.fallenBy at h
  split_ifs at h
  · exact Lease.reasons_eq_zero_of_drained h
  · exact h

/-- The period timer of a lease after `n` falls of its outstanding: at 0 when they drain the lease (R28). -/
def PeriodTimer.afterFalls (r : Lease) (n : Nat) (t : PeriodTimer) : PeriodTimer :=
  if r.state = .draining ∧ 0 < r.outstanding ∧ r.outstanding ≤ n then t.drained else t

theorem PeriodTimer.afterFalls_zero (r : Lease) (t : PeriodTimer) : t.afterFalls r 0 = t :=
  if_neg fun ⟨_, some_left, none_left⟩ => Nat.not_lt.mpr none_left some_left

/-- Falls add up on the timer as they do on the record (`Lease.fallenBy_succ`). -/
theorem PeriodTimer.afterFalls_succ (r : Lease) (n : Nat) (t : PeriodTimer) :
    (t.afterFall r).afterFalls r.fallen n = t.afterFalls r (n + 1) := by
  unfold PeriodTimer.afterFall PeriodTimer.afterFalls Lease.fallen
  by_cases none_left : r.outstanding = 0
  · simp [none_left]
  · by_cases last : r.state = .draining ∧ r.outstanding = 1
    · simp [last, Lease.drained, Lease.freeRecord]
    · have later : r.state = .draining ∧ 0 < r.outstanding - 1 ∧ r.outstanding - 1 ≤ n ↔
          r.state = .draining ∧ 0 < r.outstanding ∧ r.outstanding ≤ n + 1 := by
        have : r.state = .draining → r.outstanding ≠ 1 := fun d one => last ⟨d, one⟩
        constructor
        · rintro ⟨d, _, _⟩
          exact ⟨d, by omega, by omega⟩
        · rintro ⟨d, _, _⟩
          have := this d
          exact ⟨d, by omega, by omega⟩
      simp only [none_left, last, if_false, later]

theorem lease_fallOutstanding (j l : LeaseId) (s : State) :
    (fallOutstanding j s).lease l = if j = l then (s.lease j).fallen else s.lease l :=
  lease_of_set s (fallOutstanding_leases s j) l

theorem timer_fallOutstanding (j l : LeaseId) (s : State) :
    (fallOutstanding j s).timer l = if j = l then (s.timer j).afterFall (s.lease j) else s.timer l := by
  refine timer_of_set s ?_ l
  rw [fallOutstanding_timers, PeriodTimer.afterFall]
  split
  · rfl
  · exact (set_timer_self s j).symm

/-- A fall empties no reason set. -/
theorem reasons_eq_zero_of_fallOutstanding {j l : LeaseId} {s : State}
    (h : ((fallOutstanding j s).lease l).reasons = 0) : (s.lease l).reasons = 0 := by
  rw [lease_fallOutstanding] at h
  split_ifs at h with own
  · exact own ▸ Lease.reasons_eq_zero_of_fallen h
  · exact h

/-- A lease's reason set was empty and is so no more: the lease joins the attention set (R178). -/
def State.Joins (s t : State) (l : LeaseId) : Prop := (s.lease l).reasons = 0 ∧ (t.lease l).reasons ≠ 0

/-- `t` is what `n l` falls of outstanding on each lease `l`, taken one after another, leave of `s` (R19, R123). -/
structure Falls (n : LeaseId → Nat) (s t : State) : Prop where
  fixed : t = { s with leases := t.leases, timers := t.timers, attention := t.attention, intStatus := t.intStatus }
  lease : ∀ l : LeaseId, t.lease l = (s.lease l).fallenBy (n l)
  timer : ∀ l : LeaseId, t.timer l = (s.timer l).afterFalls (s.lease l) (n l)
  attention : ∀ l : LeaseId, t.attention.getLsbD l.val = true ↔ s.attention.getLsbD l.val = true ∨ s.Joins t l
  joined : (∃ l : LeaseId, s.Joins t l) → t.intStatus = s.intStatus ||| 0b000001#6
  quiet : (¬ ∃ l : LeaseId, s.Joins t l) → t.intStatus = s.intStatus

theorem Falls.refl (s : State) : Falls (fun _ => 0) s s where
  fixed := rfl
  lease _ := (Lease.fallenBy_zero _).symm
  timer _ := (PeriodTimer.afterFalls_zero _ _).symm
  attention _ := ⟨.inl, fun h => h.elim id fun ⟨was, now⟩ => absurd was now⟩
  joined := fun ⟨_, was, now⟩ => absurd was now
  quiet _ := rfl

/-- Falls empty no reason set. -/
theorem Falls.reasons_eq_zero {n : LeaseId → Nat} {s t : State} (h : Falls n s t) {l : LeaseId}
    (now : (t.lease l).reasons = 0) : (s.lease l).reasons = 0 := by
  rw [h.lease] at now
  exact Lease.reasons_eq_zero_of_fallenBy now

/-- What a lease joins by in a fall and those after it: the fall, or one of the others. -/
theorem Falls.joins_iff {n : LeaseId → Nat} {s t : State} {j : LeaseId} (h : Falls n (fallOutstanding j s) t) (l : LeaseId) :
    s.Joins t l ↔ s.Joins (fallOutstanding j s) l ∨ (fallOutstanding j s).Joins t l := by
  constructor
  · rintro ⟨was, now⟩
    by_cases between : ((fallOutstanding j s).lease l).reasons = 0
    · exact .inr ⟨between, now⟩
    · exact .inl ⟨was, between⟩
  · rintro (⟨was, between⟩ | ⟨between, now⟩)
    · exact ⟨was, fun now => between (h.reasons_eq_zero now)⟩
    · exact ⟨reasons_eq_zero_of_fallOutstanding between, now⟩

/-- By one fall its own lease alone can join. -/
theorem joins_fallOutstanding_iff (j l : LeaseId) (s : State) :
    s.Joins (fallOutstanding j s) l ↔ j = l ∧ (s.lease j).reasons = 0 ∧ (s.lease j).fallen.reasons ≠ 0 := by
  unfold State.Joins
  rw [lease_fallOutstanding]
  split_ifs with own
  · simp [own]
  · simp [own]

/-- One fall sets the attention bit of a lease that joins. -/
theorem attention_fallOutstanding (j l : LeaseId) (s : State) :
    (fallOutstanding j s).attention.getLsbD l.val = true ↔
      s.attention.getLsbD l.val = true ∨ s.Joins (fallOutstanding j s) l := by
  rw [joins_fallOutstanding_iff]
  by_cases own : j = l
  · subst own
    rw [fallOutstanding_eq, attentionAfter_self]
    simp
  · rw [fallOutstanding_attention_ne s own]
    simp [own]

/-- One fall sets ATTENTION when its lease joins. -/
theorem intStatus_fall_of_joins {j : LeaseId} {s : State} (h : ∃ l : LeaseId, s.Joins (fallOutstanding j s) l) :
    (fallOutstanding j s).intStatus = s.intStatus ||| 0b000001#6 := by
  obtain ⟨l, joins⟩ := h
  obtain ⟨-, joins⟩ := (joins_fallOutstanding_iff j l s).mp joins
  rw [fallOutstanding_eq]
  exact if_pos joins

/-- One fall by which no lease joins sets no source. -/
theorem intStatus_fall_of_not_joins {j : LeaseId} {s : State} (h : ¬ ∃ l : LeaseId, s.Joins (fallOutstanding j s) l) :
    (fallOutstanding j s).intStatus = s.intStatus := by
  rw [fallOutstanding_eq]
  exact if_neg fun joins => h ⟨j, (joins_fallOutstanding_iff j j s).mpr ⟨rfl, joins⟩⟩

/-- A fall and those after it. -/
theorem Falls.after_fall {n : LeaseId → Nat} {s t : State} {j : LeaseId} (h : Falls n (fallOutstanding j s) t) :
    Falls (fun l => n l + if j = l then 1 else 0) s t where
  fixed := by
    have fixed := h.fixed
    rw [fallOutstanding_eq] at fixed
    exact fixed
  lease l := by
    rw [h.lease, lease_fallOutstanding]
    split_ifs with own
    · rw [own, Lease.fallenBy_succ]
    · rfl
  timer l := by
    rw [h.timer, lease_fallOutstanding, timer_fallOutstanding]
    split_ifs with own
    · rw [own, PeriodTimer.afterFalls_succ]
    · rfl
  attention l := by rw [h.attention, attention_fallOutstanding, h.joins_iff, or_assoc]
  joined := by
    rintro ⟨l, joins⟩
    by_cases first : ∃ l : LeaseId, s.Joins (fallOutstanding j s) l
    · by_cases later : ∃ l : LeaseId, (fallOutstanding j s).Joins t l
      · rw [h.joined later, intStatus_fall_of_joins first, BitVec.or_assoc, BitVec.or_self]
      · rw [h.quiet later, intStatus_fall_of_joins first]
    · have later : ∃ l : LeaseId, (fallOutstanding j s).Joins t l :=
        ⟨l, ((h.joins_iff l).mp joins).resolve_left fun now => first ⟨l, now⟩⟩
      rw [h.joined later, intStatus_fall_of_not_joins first]
  quiet none_joins := by
    have first : ¬ ∃ l : LeaseId, s.Joins (fallOutstanding j s) l := fun ⟨l, joins⟩ =>
      none_joins ⟨l, (h.joins_iff l).mpr (.inl joins)⟩
    have later : ¬ ∃ l : LeaseId, (fallOutstanding j s).Joins t l := fun ⟨l, joins⟩ =>
      none_joins ⟨l, (h.joins_iff l).mpr (.inr joins)⟩
    rw [h.quiet later, intStatus_fall_of_not_joins first]

/-- Falls for a list of entries, one on the lease of each. -/
theorem falls_foldl (gone : List DispatchEntry) (s : State) :
    Falls (fun l => gone.countP fun e => decide (e.lease = l)) s (gone.foldl (fun s e => fallOutstanding e.lease s) s) := by
  induction gone generalizing s with
  | nil => exact Falls.refl s
  | cons e rest ih =>
    simp only [List.countP_cons, decide_eq_true_eq, List.foldl_cons]
    exact (ih (fallOutstanding e.lease s)).after_fall

end Sys2Proof.Machine
end

section
/-!
PROOF. The client port reset: its removals and mutings table by table, then its trigger and the port's own unit (O8).
-/

namespace Sys2Proof.Machine

/-! ### The removals (R80, R117, R122) -/

/-- The held entries of a port in the hold queue of a lease. -/
def State.heldOf (s : State) (p : PortId) (l : LeaseId) : Nat := (s.holdQueue l).countP fun e => decide (e.port = p)

/-- The dispatch entries of a port that name a lease. -/
def State.dispatchedOf (s : State) (p : PortId) (l : LeaseId) : Nat :=
  (s.gQueue ++ s.sQueue).countP fun e => e.ofPort p && decide (e.lease = l)

/-- A list is what a test keeps and what it removes. -/
theorem length_sub_filter_port (q : List HeldEntry) (p : PortId) :
    q.length - (q.filter fun e => decide (e.port ≠ p)).length = q.countP fun e => decide (e.port = p) := by
  have parts := List.length_eq_countP_add_countP (fun e : HeldEntry => decide (e.port = p)) (l := q)
  rw [← List.countP_eq_length_filter]
  simp only [decide_not, Bool.not_eq_true, Bool.decide_eq_false] at parts ⊢
  omega

/-- The removal of a port's dispatch entries is a fall of outstanding for each (R122, R123). -/
theorem falls_removeDispatched (p : PortId) (s : State) :
    Falls (s.dispatchedOf p) { s with
      gQueue := s.gQueue.filter fun e => !e.ofPort p
      sQueue := s.sQueue.filter fun e => !e.ofPort p } (removeDispatched p s) := by
  have counted : s.dispatchedOf p = fun l =>
      ((s.gQueue ++ s.sQueue).filter (·.ofPort p)).countP fun e => decide (e.lease = l) := by
    funext l
    rw [List.countP_filter]
    exact congrArg (List.countP · _) (funext fun e => Bool.and_comm _ _)
  rw [counted]
  exact falls_foldl _ _

/-- The work of a port, in counts (R80 step 6). -/
theorem portHasWork_eq (p : PortId) (s : State) : portHasWork p s =
    ((s.gQueue ++ s.sQueue).any (·.ofPort p) || (List.finRange 64).any fun l => decide (0 < s.heldOf p l)) := by
  have held : (fun l => (s.holdQueue l).any fun e => decide (e.port = p)) = fun l => decide (0 < s.heldOf p l) := by
    funext l
    rw [Bool.eq_iff_iff, decide_eq_true_iff]
    unfold State.heldOf
    rw [List.countP_pos_iff, List.any_eq_true]
  unfold portHasWork
  rw [held]

/-- The removal of a port's held entries touches the tables named here, and the pool's free count by what left (R117). -/
theorem removeHeld_fixed (p : PortId) (s : State) : removeHeld p s = { s with
    leases := (removeHeld p s).leases
    holdQueues := (removeHeld p s).holdQueues
    releases := (removeHeld p s).releases
    poolFree := s.poolFree + ((List.finRange 64).map (s.heldOf p)).sum } := by
  have gone : (fun l => (s.holdQueue l).length - ((s.holdQueue l).filter fun e => decide (e.port ≠ p)).length) =
      s.heldOf p := funext fun l => length_sub_filter_port _ p
  rw [← gone]
  rfl

/-! ### The claim of the reset, but for its trigger and the port's own unit -/

/-- What stands after a client port reset's removals and mutings (R80 steps 3 to 5). -/
def resetClaim (p : PortId) (s : State) : State :=
  { removeDispatched p (removeHeld p s) with tags := tabulate fun t => (s.tag t).mute p }

theorem resetPort_eq (p : PortId) (s : State) : resetPort p s =
    (handTriggerIf (portHasWork p s) (resetClaim p s)).setPort p (s.port p).flush.settle := by
  unfold resetPort resetClaim
  dsimp only
  have tags : (removeDispatched p (removeHeld p s)).tags = s.tags := by
    rw [removeDispatched_fixed]
    rfl
  simp only [State.tag, tags]

/-- The removals and mutings touch the tables named here and no other. -/
theorem resetClaim_fixed (p : PortId) (s : State) : resetClaim p s = { s with
    leases := (resetClaim p s).leases
    timers := (resetClaim p s).timers
    holdQueues := (resetClaim p s).holdQueues
    releases := (resetClaim p s).releases
    poolFree := s.poolFree + ((List.finRange 64).map (s.heldOf p)).sum
    gQueue := s.gQueue.filter fun e => !e.ofPort p
    sQueue := s.sQueue.filter fun e => !e.ofPort p
    tags := (resetClaim p s).tags
    attention := (resetClaim p s).attention
    intStatus := (resetClaim p s).intStatus } := by
  unfold resetClaim
  rw [removeDispatched_fixed, removeHeld_fixed]

theorem lease_resetClaim (p : PortId) (s : State) (l : LeaseId) :
    (resetClaim p s).lease l = ((s.lease l).unhold (s.heldOf p l)).fallenBy (s.dispatchedOf p l) := by
  have fallen := (falls_removeDispatched p (removeHeld p s)).lease l
  have unheld := lease_removeHeld s p l
  rw [length_sub_filter_port] at unheld
  exact fallen.trans (congrArg (fun r => Lease.fallenBy r (s.dispatchedOf p l)) unheld)

theorem timer_resetClaim (p : PortId) (s : State) (l : LeaseId) :
    (resetClaim p s).timer l = (s.timer l).afterFalls (s.lease l) (s.dispatchedOf p l) := by
  have fallen := (falls_removeDispatched p (removeHeld p s)).timer l
  have same : (s.timer l).afterFalls ((removeHeld p s).lease l) (s.dispatchedOf p l) =
      (s.timer l).afterFalls (s.lease l) (s.dispatchedOf p l) := by
    rw [lease_removeHeld]
    rfl
  exact fallen.trans same

theorem holdQueue_resetClaim (p : PortId) (s : State) (l : LeaseId) :
    (resetClaim p s).holdQueue l = (s.holdQueue l).filter fun e => decide (e.port ≠ p) := by
  rw [← holdQueue_removeHeld]
  unfold resetClaim
  rw [removeDispatched_fixed]
  rfl

theorem release_resetClaim (p : PortId) (s : State) (l : LeaseId) :
    (resetClaim p s).release l =
      if (resetClaim p s).holdQueue l = [] ∧ s.holdQueue l ≠ [] then .idle else s.release l := by
  have removed : (resetClaim p s).release l = (removeHeld p s).release l := by
    unfold resetClaim
    rw [removeDispatched_fixed]
    rfl
  rw [removed, release_removeHeld, holdQueue_resetClaim, ← holdQueue_removeHeld]
  refine if_congr ?_ rfl rfl
  rw [and_comm]
  refine and_congr_right fun emptied => ?_
  simp [emptied]

theorem tag_resetClaim (p : PortId) (s : State) (k : TagId) : (resetClaim p s).tag k = (s.tag k).mute p := by
  unfold resetClaim State.tag
  rw [getElem_tabulate]

theorem joins_removeHeld_iff (p : PortId) (s : State) (l : LeaseId) :
    (removeHeld p s).Joins (resetClaim p s) l ↔ s.Joins (resetClaim p s) l := by
  unfold State.Joins
  rw [lease_removeHeld]
  rfl

theorem attention_resetClaim (p : PortId) (s : State) (l : LeaseId) :
    (resetClaim p s).attention.getLsbD l.val = true ↔ s.attention.getLsbD l.val = true ∨ s.Joins (resetClaim p s) l :=
  ((falls_removeDispatched p (removeHeld p s)).attention l).trans (or_congr Iff.rfl (joins_removeHeld_iff p s l))

/-- ATTENTION is set when a lease joins the attention set, whichever way that is decided. -/
theorem intStatus_resetClaim (p : PortId) (s : State)
    [Decidable (∃ l : LeaseId, (s.lease l).reasons = 0 ∧ ((resetClaim p s).lease l).reasons ≠ 0)] :
    (resetClaim p s).intStatus =
      if ∃ l : LeaseId, (s.lease l).reasons = 0 ∧ ((resetClaim p s).lease l).reasons ≠ 0 then s.intStatus ||| 0b000001#6
      else s.intStatus := by
  have falls := falls_removeDispatched p (removeHeld p s)
  have same := exists_congr (joins_removeHeld_iff p s)
  split_ifs with joins
  · exact falls.joined (same.mpr joins)
  · exact falls.quiet fun some_joins => joins (same.mp some_joins)

/-! ### The trigger (R80 step 6) -/

theorem port_handTriggerIf (b : Bool) (s : State) (p : PortId) :
    (handTriggerIf b s).port p = if b then (s.port p).hand else s.port p := by
  cases b
  · rfl
  · exact port_handTrigger s p

theorem release_handTriggerIf (b : Bool) (s : State) (l : LeaseId) :
    (handTriggerIf b s).release l = if b = true ∧ s.release l = .paused then .running else s.release l := by
  cases b
  · simp [handTriggerIf_eq]
  · simp [handTriggerIf_eq, ReleaseState.retrigger_eq]

theorem engine_handTriggerIf (b : Bool) (s : State) : (handTriggerIf b s).engine = { s.engine with state :=
    match s.engine.state with
    | .busy step .waiting stopPending => if b then .busy step .presented stopPending else s.engine.state
    | x => x } := by
  have retriggered : (if b then s.engine.state.retrigger else s.engine.state) = (match s.engine.state with
      | .busy step .waiting stopPending => if b then .busy step .presented stopPending else s.engine.state
      | x => x) := by
    cases s.engine.state with
    | stopped => cases b <;> rfl
    | idle => cases b <;> rfl
    | halted => cases b <;> rfl
    | busy step phase stopPending => cases phase <;> cases b <;> rfl
  rw [← retriggered]
  cases b <;> rfl

/-- An ISSUED tag of the port has its muted flag set, and one of another origin keeps its flag (R131). -/
theorem Tag.mute_issued (p : PortId) (f : IssuedTag) :
    (Tag.issued f).mute p = .issued { f with muted := f.muted ||
      match f.origin with
      | .client q _ => decide (q = p)
      | .engine => false } := by
  obtain ⟨lease, origin, direction, length, muted, timer⟩ := f
  cases origin with
  | engine => simp [Tag.mute]
  | client q id => by_cases own : q = p <;> simp [Tag.mute, own]

theorem lease_handTriggerIf (b : Bool) (s : State) (l : LeaseId) : (handTriggerIf b s).lease l = s.lease l :=
  lease_congr s (handTriggerIf_leases s b) l

theorem timer_handTriggerIf (b : Bool) (s : State) (l : LeaseId) : (handTriggerIf b s).timer l = s.timer l :=
  timer_congr s (handTriggerIf_timers s b) l

theorem holdQueue_handTriggerIf (b : Bool) (s : State) (l : LeaseId) : (handTriggerIf b s).holdQueue l = s.holdQueue l := by
  unfold State.holdQueue
  rw [handTriggerIf_holdQueues]

theorem tag_handTriggerIf (b : Bool) (s : State) (k : TagId) : (handTriggerIf b s).tag k = s.tag k := by
  unfold State.tag
  rw [handTriggerIf_tags]

end Sys2Proof.Machine

open Sys2Proof Sys2Proof.Machine

/-- Settles O8: the removals and mutings table by table (`resetClaim`), then their trigger and the port's own unit. -/
theorem clientPortResetRemovesPortWork : Obligations.ClientPortResetRemovesPortWork := by
  unfold Obligations.ClientPortResetRemovesPortWork
  intro s p
  refine ⟨resetPort p s, rfl, ?_⟩
  intro own ownHeld removed
  have ownHeld_eq : ownHeld = s.heldOf p := rfl
  have own_eq : own = (·.ofPort p) := rfl
  have removed_eq : removed = portHasWork p s := (portHasWork_eq p s).symm
  clear_value own ownHeld removed
  subst own_eq ownHeld_eq removed_eq
  rw [resetPort_eq]
  refine ⟨?_, port_setPort_self _ _ _, fun q other => ?_, fun l => ?_, fun k => ?_⟩
  · conv_lhs => rw [handTriggerIf_fixed, engine_handTriggerIf]
    simp only [setPort_leases, setPort_timers, setPort_holdQueues, setPort_releases, setPort_tags, setPort_attention,
      handTriggerIf_leases, handTriggerIf_timers, handTriggerIf_holdQueues, handTriggerIf_tags, handTriggerIf_attention,
      lease_setPort, lease_handTriggerIf]
    rw [← @intStatus_resetClaim p s _, resetClaim_fixed]
    rfl
  · rw [port_setPort, if_neg other.symm, port_handTriggerIf, resetClaim_fixed]
    rfl
  · simp only [lease_setPort, timer_setPort, holdQueue_setPort, release_setPort, setPort_attention, lease_handTriggerIf,
      timer_handTriggerIf, holdQueue_handTriggerIf, release_handTriggerIf, handTriggerIf_attention]
    refine ⟨holdQueue_resetClaim p s l, ?_, lease_resetClaim p s l, timer_resetClaim p s l, ?_⟩
    · rw [release_resetClaim]
      by_cases emptied : (resetClaim p s).holdQueue l = [] ∧ s.holdQueue l ≠ []
      · simp [emptied]
      · simp only [if_neg emptied]
    · rw [Bool.eq_iff_iff, attention_resetClaim]
      simp only [Bool.or_eq_true, decide_eq_true_eq]
      rfl
  · rw [tag_setPort, tag_handTriggerIf, tag_resetClaim]
    cases s.tag k with
    | issued f => exact Tag.mute_issued p f
    | free => rfl
    | orphaned => rfl

end

section
/-!
PROOF. Every command is taken, the queue of commands outlasts it, and what was sent on the links stays sent (O2): operation by
operation, then row by row.
-/

namespace Sys2Proof.Machine

/-- The queue of commands stands, and what was sent on the client links and the memory link stays sent (R78, R126). -/
structure Onward (s t : State) : Prop where
  pending : t.pending = s.pending
  sent : s.sent <+: t.sent
  memoryOut : s.memoryOut <+: t.memoryOut

namespace Onward

theorem refl (s : State) : Onward s s := ⟨rfl, List.prefix_rfl, List.prefix_rfl⟩

theorem trans {s t u : State} (h : Onward s t) (h' : Onward t u) : Onward s u :=
  ⟨h'.pending.trans h.pending, h.sent.trans h'.sent, h.memoryOut.trans h'.memoryOut⟩

/-- Nothing is sent. -/
theorem silent {s t : State} (pending : t.pending = s.pending) (sent : t.sent = s.sent)
    (memoryOut : t.memoryOut = s.memoryOut) : Onward s t :=
  ⟨pending, sent ▸ List.prefix_rfl, memoryOut ▸ List.prefix_rfl⟩

theorem foldl {α : Type} {f : State → α → State} (h : ∀ s a, Onward s (f s a)) (xs : List α) (s : State) :
    Onward s (xs.foldl f s) := by
  induction xs generalizing s with
  | nil => exact refl s
  | cons a rest ih => exact (h s a).trans (ih (f s a))

end Onward

/-- The outcome is a next state, which goes on from the state. -/
def Answers (s : State) (o : Host.Outcome State Fault Refusal) : Prop := ∃ t : State, o = .next t ∧ Onward s t

namespace Answers

theorem next {s t : State} (h : Onward s t) : Answers s (.next t) := ⟨t, rfl, h⟩

theorem stays (s : State) : Answers s (.next s) := next (.refl s)

theorem ite {s : State} {p : Prop} [Decidable p] {o o' : Host.Outcome State Fault Refusal} (yes : Answers s o)
    (no : Answers s o') : Answers s (if p then o else o') := by
  split
  · exact yes
  · exact no

end Answers

/-! ### Shared operations -/

theorem onward_setLease (l : LeaseId) (r : Lease) (s : State) : Onward s (s.setLease l r) := .silent rfl rfl rfl

theorem onward_setTag (t : TagId) (v : Tag) (s : State) : Onward s (s.setTag t v) := .silent rfl rfl rfl

theorem onward_handTriggerIf (b : Bool) (s : State) : Onward s (handTriggerIf b s) :=
  .silent (handTriggerIf_pending s b) (handTriggerIf_sent s b) (handTriggerIf_memoryOut s b)

theorem onward_releaseTrigger (l : LeaseId) (s : State) : Onward s (releaseTrigger l s) :=
  .silent (releaseTrigger_pending s l) (releaseTrigger_sent s l) (releaseTrigger_memoryOut s l)

theorem onward_raiseReason (l : LeaseId) (why : Reason) (s : State) : Onward s (raiseReason l why s) :=
  .silent (raiseReason_pending s l why) (raiseReason_sent s l why) (raiseReason_memoryOut s l why)

theorem onward_fallOutstanding (l : LeaseId) (s : State) : Onward s (fallOutstanding l s) :=
  .silent (fallOutstanding_pending s l) (fallOutstanding_sent s l) (fallOutstanding_memoryOut s l)

theorem onward_sendResponse (p : PortId) (id : Byte) (status : ClientStatus) (data : List Beat) (s : State) :
    Onward s (sendResponse p id status data s) :=
  ⟨rfl, List.prefix_append _ _, List.prefix_rfl⟩

/-- Drain start sends the refusals of the held requests (R16). -/
theorem onward_drainStart (l : LeaseId) (cause : DrainCause) (s : State) : Onward s (drainStart l cause s) := by
  have claim : Onward s (drainClaim l cause s) := ⟨rfl, List.prefix_append _ _, List.prefix_rfl⟩
  rw [drainStart_eq]
  exact claim.trans (onward_handTriggerIf _ _)

theorem onward_answerTag (f : IssuedTag) (status : ClientStatus) (data : List Beat) (s : State) :
    Onward s (answerTag f status data s) := by
  unfold answerTag
  split
  · split
    · exact .refl s
    · exact onward_sendResponse _ _ status data s
  · exact .refl s

theorem onward_haltIfEngine (f : IssuedTag) (cause : FaultCause) (s : State) : Onward s (haltIfEngine f cause s) :=
  .silent (haltIfEngine_pending s f cause) (haltIfEngine_sent s f cause) (haltIfEngine_memoryOut s f cause)

theorem onward_endTag (t : TagId) (f : IssuedTag) (after : Tag) (s : State) : Onward s (endTag t f after s) :=
  (onward_setTag t after s).trans (onward_fallOutstanding f.lease _)

theorem onward_faultTag (t : TagId) (f : IssuedTag) (status : ClientStatus) (cause : FaultCause) (after : Tag) (s : State) :
    Onward s (faultTag t f status cause after s) := by
  have counted : Onward (answerTag f status [] s) (countFault f.lease (answerTag f status [] s)) :=
    .silent (countFault_pending _ _) (countFault_sent _ _) (countFault_memoryOut _ _)
  exact (((onward_answerTag f status [] s).trans counted).trans (onward_endTag t f after _)).trans
    (onward_haltIfEngine f cause _)

/-! ### Client ports and the admission unit (Sections 5 to 7) -/

theorem onward_refuseHead (p : PortId) (r : PortRequest) (status : ClientStatus) (s : State) :
    Onward s (refuseHead p r status s) :=
  ⟨rfl, List.prefix_append _ _, List.prefix_rfl⟩

theorem onward_chargeAndPlace (e : DispatchEntry) (s : State) : Onward s (chargeAndPlace e s) :=
  .silent (chargeAndPlace_pending s e) (chargeAndPlace_sent s e) (chargeAndPlace_memoryOut s e)

theorem onward_overdrawAndPlace (e : DispatchEntry) (s : State) : Onward s (overdrawAndPlace e s) :=
  .silent (overdrawAndPlace_pending s e) (overdrawAndPlace_sent s e) (overdrawAndPlace_memoryOut s e)

theorem onward_takeTriggers (s : State) : Onward s (takeTriggers s) := .silent rfl rfl rfl

theorem onward_departPort (p : PortId) (s : State) : Onward s (departPort p s) := .silent rfl rfl rfl

theorem onward_leaveHoldQueue (l : LeaseId) (s : State) : Onward s (leaveHoldQueue l s) := .silent rfl rfl rfl

theorem onward_applyPortOutcome (p : PortId) (r : PortRequest) (o : PortOutcome) (s : State) :
    Onward s (applyPortOutcome p r o s) := by
  cases o with
  | refuse status => exact onward_refuseHead p r status s
  | refuseCounted l status => exact (onward_setLease l _ s).trans (onward_refuseHead p r status _)
  | overdraw l => exact (onward_overdrawAndPlace (entryOfRequest p l r) s).trans (onward_departPort p _)
  | hold l => exact .silent rfl rfl rfl
  | block l => exact .silent rfl rfl rfl
  | charge l => exact (onward_chargeAndPlace (entryOfRequest p l r) s).trans (onward_departPort p _)

theorem onward_examinePort (p : PortId) (s : State) : Onward s (examinePort p s) := by
  unfold examinePort
  split
  · exact .refl s
  · exact onward_applyPortOutcome p _ _ s

theorem onward_applyReleaseOutcome (l : LeaseId) (e : HeldEntry) (o : ReleaseOutcome) (s : State) :
    Onward s (applyReleaseOutcome l e o s) := by
  cases o with
  | placed => exact (onward_chargeAndPlace (entryOfHeld l e) s).trans (onward_leaveHoldQueue l _)
  | placedOverdraw => exact (onward_overdrawAndPlace (entryOfHeld l e) s).trans (onward_leaveHoldQueue l _)
  | refused =>
    have answered := (onward_setLease l ((s.lease l).countRefusals 1) s).trans
      (onward_sendResponse e.port e.clientId .refusedOversize [] _)
    exact answered.trans (onward_leaveHoldQueue l _)
  | stop => exact .silent rfl rfl rfl
  | pause => exact .silent rfl rfl rfl

theorem onward_examineRelease (l : LeaseId) (s : State) : Onward s (examineRelease l s) := by
  unfold examineRelease
  split
  · exact .refl s
  · exact onward_applyReleaseOutcome l _ _ s

theorem onward_examineEngine (s : State) : Onward s (examineEngine s) := by
  unfold examineEngine
  split
  · dsimp only
    split_ifs
    · exact .silent rfl rfl rfl
    · exact .silent rfl rfl rfl
    · exact .silent rfl rfl rfl
  · exact .refl s
  · exact .refl s
  · exact .refl s

/-- The claims of the admission unit follow the takings of triggers and serve one position (R90). -/
theorem onward_served (s : State) (i : Fin 72) : Onward s { takeTriggers s with lastServed := i } := .silent rfl rfl rfl

theorem answers_requestArrival (p : PortId) (r : PortRequest) (s : State) : Answers s (execRequestArrival p r s) :=
  .ite (.next (.silent rfl rfl rfl)) (.stays s)

theorem answers_portHeadExamination (s : State) : Answers s (execPortHeadExamination s) := by
  unfold execPortHeadExamination
  dsimp only
  split
  · exact .next (onward_takeTriggers s)
  · split
    · exact .next ((onward_served s _).trans (onward_examinePort _ _))
    · exact .next (onward_takeTriggers s)
    · exact .next (onward_takeTriggers s)

theorem answers_releasedEntryExamination (s : State) : Answers s (execReleasedEntryExamination s) := by
  unfold execReleasedEntryExamination
  dsimp only
  split
  · exact .next (onward_takeTriggers s)
  · split
    · exact .next ((onward_served s _).trans (onward_examineRelease _ _))
    · exact .next (onward_takeTriggers s)
    · exact .next (onward_takeTriggers s)

theorem answers_engineRequestExamination (s : State) : Answers s (execEngineRequestExamination s) := by
  unfold execEngineRequestExamination
  dsimp only
  split
  · exact .next (onward_takeTriggers s)
  · split
    · exact .next ((onward_served s _).trans (onward_examineEngine _))
    · exact .next (onward_takeTriggers s)
    · exact .next (onward_takeTriggers s)

/-! ### Commands of the ring (Section 10) -/

theorem onward_takeOpenLease (r : Beat) (s : State) : Onward s (takeOpenLease r s).state := by
  unfold takeOpenLease
  split
  · exact .refl s
  · split
    · exact .refl s
    · split
      · exact .refl s
      · split
        · exact .refl s
        · show Onward s (openLeaseAt _ _ _ (openParams r) s)
          rw [openLeaseAt_eq]
          exact .silent rfl rfl rfl

theorem onward_resizeLeaseAt (l : LeaseId) (p : ResizeParams) (s : State) : Onward s (resizeLeaseAt l p s) := by
  have record : Onward s (resizeRecord l p s) := .silent rfl rfl rfl
  rw [resizeLeaseAt_eq]
  refine (record.trans ?_).trans (onward_handTriggerIf _ _)
  split
  · exact onward_releaseTrigger l _
  · exact .refl _

theorem onward_takeResizeLease (r : Beat) (s : State) : Onward s (takeResizeLease r s).state := by
  unfold takeResizeLease
  split
  · exact .refl s
  · dsimp only
    split_ifs
    · exact .refl s
    · exact .refl s
    · exact .refl s
    · exact onward_resizeLeaseAt _ _ s

theorem onward_takeRenewLease (r : Beat) (s : State) : Onward s (takeRenewLease r s).state := by
  unfold takeRenewLease
  split
  · exact .refl s
  · dsimp only
    split
    · exact .refl s
    · exact .refl s
    · split
      · exact .refl s
      · exact .silent rfl rfl rfl
    · split
      · exact .refl s
      · exact .silent rfl rfl rfl

theorem onward_takeSuspendLease (r : Beat) (s : State) : Onward s (takeSuspendLease r s).state := by
  unfold takeSuspendLease
  split
  · exact .refl s
  · dsimp only
    split
    · exact .refl s
    · split
      · exact .silent rfl rfl rfl
      · exact .refl s
      · exact .refl s
      · exact .refl s

theorem onward_resumeLeaseAt (l : LeaseId) (s : State) : Onward s (resumeLeaseAt l s) := by
  have triggered := (onward_setLease l { s.lease l with state := .opened } s).trans (onward_releaseTrigger l _)
  exact triggered.trans (onward_handTriggerIf true _)

theorem onward_takeResumeLease (r : Beat) (s : State) : Onward s (takeResumeLease r s).state := by
  unfold takeResumeLease
  split
  · exact .refl s
  · dsimp only
    split
    · exact onward_resumeLeaseAt _ s
    · exact .refl s
    · exact .refl s
    · exact .refl s

theorem onward_takeRetireLease (r : Beat) (s : State) : Onward s (takeRetireLease r s).state := by
  unfold takeRetireLease
  split
  · exact .refl s
  · dsimp only
    split_ifs
    · exact .refl s
    · exact onward_drainStart _ .retired s
    · exact .refl s

theorem onward_takeBindStream (r : Beat) (s : State) : Onward s (takeBindStream r s).state := by
  unfold takeBindStream
  split
  · exact .refl s
  · dsimp only
    split_ifs with h
    · exact .refl s
    · show Onward s (bindSlot ⟨bindingPort r, h.1⟩ ⟨bindingTag r, h.2⟩ (recordLease r) s)
      rw [bindSlot_eq]
      split
      · exact .refl s
      · exact .silent rfl rfl rfl
    · exact .refl s
    · exact .refl s

theorem onward_takeUnbindStream (r : Beat) (s : State) : Onward s (takeUnbindStream r s).state := by
  unfold takeUnbindStream
  split
  · exact .refl s
  · split_ifs with h
    · show Onward s (unbindSlot ⟨bindingPort r, h.1⟩ ⟨bindingTag r, h.2⟩ s)
      rw [unbindSlot_eq]
      split
      · exact .refl s
      · exact .silent rfl rfl rfl
    · exact .refl s

theorem onward_takeAckAttention (r : Beat) (s : State) : Onward s (takeAckAttention r s).state := by
  unfold takeAckAttention
  split
  · exact .refl s
  · show Onward s (acknowledge _ _ s)
    unfold acknowledge
    dsimp only
    split
    · exact .silent rfl rfl rfl
    · exact .silent rfl rfl rfl

theorem onward_takeSetCapacity (r : Beat) (s : State) : Onward s (takeSetCapacity r s).state := by
  unfold takeSetCapacity
  split
  · exact .refl s
  · split
    · exact .silent rfl rfl rfl
    · exact .refl s

theorem onward_takeNop (r : Beat) (s : State) : Onward s (takeNop r s).state := by
  rw [state_takeNop]
  exact .refl s

theorem onward_takeQueryLease (r : Beat) (s : State) : Onward s (takeQueryLease r s).state := by
  rw [state_takeQueryLease]
  exact .refl s

theorem onward_takeUnknown (r : Beat) (s : State) : Onward s (takeUnknown r s).state := by
  rw [state_takeUnknown]
  exact .refl s

theorem onward_takeRecord (r : Beat) (s : State) : Onward s (takeRecord r s).state := by
  unfold takeRecord
  split
  · exact onward_takeNop r s
  · exact onward_takeOpenLease r s
  · exact onward_takeResizeLease r s
  · exact onward_takeRenewLease r s
  · exact onward_takeSuspendLease r s
  · exact onward_takeResumeLease r s
  · exact onward_takeRetireLease r s
  · exact onward_takeBindStream r s
  · exact onward_takeUnbindStream r s
  · exact onward_takeQueryLease r s
  · exact onward_takeAckAttention r s
  · exact onward_takeSetCapacity r s
  · exact onward_takeUnknown r s

theorem onward_executeFetched (r : Beat) {take : Beat → State → Taken} (taken : ∀ u : State, Onward u (take r u).state)
    (stopPending : Bool) (s : State) : Onward s (executeFetched r take stopPending s) :=
  (taken s).trans (.silent rfl rfl rfl)

theorem onward_answerFetch (r : Beat) {take : Beat → State → Taken} (taken : ∀ u : State, Onward u (take r u).state)
    (s : State) : Onward s (answerFetch r take s) := by
  unfold answerFetch
  split
  · exact (onward_endTag _ _ .free s).trans (onward_executeFetched r taken _ _)
  · exact .refl s

/-! ### The memory port (Section 8) -/

theorem onward_engineAnswered (data : List Beat) (s : State) : Onward s (engineAnswered data s) := by
  unfold engineAnswered
  split
  · exact onward_executeFetched _ (onward_takeRecord _) _ s
  · exact .silent rfl rfl rfl
  · rw [completeCommand_eq]
    exact .silent rfl rfl rfl
  · exact .refl s
  · exact .refl s
  · exact .refl s

theorem onward_respondOk (t : TagId) (f : IssuedTag) (data : List Beat) (s : State) : Onward s (respondOk t f data s) := by
  have spent : Onward s (spendFree f data s) := by
    rw [spendFree_fixed]
    exact .silent rfl rfl rfl
  have ended := (spent.trans (onward_answerTag f .done (readData f data s) _)).trans (onward_endTag t f .free _)
  unfold respondOk
  dsimp only
  split
  · exact ended.trans (onward_engineAnswered _ _)
  · exact ended

theorem answers_memoryResponse (t : TagId) (status : MemoryStatus) (data : List Beat) (s : State) :
    Answers s (execMemoryResponse t status data s) := by
  unfold execMemoryResponse
  split
  · exact .next (.silent rfl rfl rfl)
  · split
    · exact .next (.silent rfl rfl rfl)
    · exact .next (.silent rfl rfl rfl)
    · split
      · exact .next (onward_respondOk t _ data s)
      · exact .next (onward_faultTag t _ .memoryError .memoryError .free s)

/-- An issue sends the request on the memory link (R126). -/
theorem onward_issueEntry (q : QueueName) (e : DispatchEntry) (t : TagId) (s : State) : Onward s (issueEntry q e t s) := by
  cases q with
  | g =>
    rw [issueEntry_g]
    exact ⟨rfl, List.prefix_rfl, List.prefix_append _ _⟩
  | s =>
    rw [issueEntry_s]
    exact ⟨rfl, List.prefix_rfl, List.prefix_append _ _⟩

theorem answers_issue (s : State) : Answers s (execIssue s) := by
  unfold execIssue
  split
  · exact .next (onward_issueEntry _ _ _ s)
  · exact .stays s

/-! ### Time (Sections 2, 3, 5 and 8) -/

theorem onward_beginPeriod (l : LeaseId) (s : State) : Onward s (beginPeriod l s) := by
  have renewed := onward_setLease l (s.lease l).newPeriod s
  have triggered (u : State) : Onward u (handTrigger (releaseTrigger l u)) :=
    (onward_releaseTrigger l u).trans (onward_handTriggerIf true _)
  unfold beginPeriod
  dsimp only
  split
  · exact (renewed.trans (onward_raiseReason l .curbed _)).trans (triggered _)
  · exact renewed.trans (triggered _)

theorem onward_takePeriodEnd (l : LeaseId) (s : State) : Onward s (takePeriodEnd l s) := by
  have counted : Onward s (countPeriod l s) := .silent rfl rfl rfl
  unfold takePeriodEnd
  dsimp only
  split_ifs
  · exact onward_beginPeriod l s
  · exact counted.trans (onward_drainStart l .expired _)
  · exact counted.trans (onward_beginPeriod l _)

theorem onward_stallExpire (p : PortId) (s : State) : Onward s (stallExpire p s) := by
  have counted (u : Port) : Onward s (countStall u s) := by
    unfold countStall
    split
    · exact .refl s
    · split
      · exact .refl s
      · exact .silent rfl rfl rfl
  have flagged (u : Port) : Onward s (setSource .portStall (countStall u s)) := (counted u).trans (.silent rfl rfl rfl)
  unfold stallExpire
  split
  · exact .refl s
  · exact (flagged _).trans (onward_refuseHead p _ .refusedStalled _)

theorem onward_tickPort (p : PortId) (s : State) : Onward s (tickPort p s) := by
  unfold tickPort
  split_ifs
  · exact onward_stallExpire p s
  · exact .silent rfl rfl rfl
  · exact .refl s

theorem onward_tickTag (t : TagId) (s : State) : Onward s (tickTag t s) := by
  unfold tickTag
  split
  · split
    · exact onward_faultTag t _ .timeout .timeout .orphaned s
    · exact .silent rfl rfl rfl
  · exact .refl s
  · exact .refl s

theorem onward_countMicrosecond (s : State) : Onward s (countMicrosecond s) := by
  have periods : Onward s (tickPeriodTimers s) := .silent rfl rfl rfl
  exact (periods.trans (.foldl (fun s p => onward_tickPort p s) _ _)).trans (.foldl (fun s t => onward_tickTag t s) _ _)

theorem answers_microsecondEvent (s : State) : Answers s (execMicrosecondEvent s) :=
  have begun : Onward s (beginMicrosecond (takeTriggers s)) := .silent rfl rfl rfl
  .next (begun.trans (onward_countMicrosecond _))

theorem answers_periodTimerExpiry (l : LeaseId) (s : State) : Answers s (execPeriodTimerExpiry l s) :=
  .ite (.next (.silent rfl rfl rfl)) (.stays s)

theorem answers_periodEnd (l : LeaseId) (s : State) : Answers s (execPeriodEnd l s) :=
  have lowered : Onward s (s.setTimer l { s.timer l with raised := (s.timer l).raised - 1 }) := .silent rfl rfl rfl
  .ite (.next (lowered.trans (onward_takePeriodEnd l _))) (.stays s)

theorem answers_stallExpiry (p : PortId) (s : State) : Answers s (execStallExpiry p s) :=
  .ite (.next (onward_stallExpire p s)) (.stays s)

theorem answers_responseTimeout (t : TagId) (s : State) : Answers s (execResponseTimeout t s) := by
  unfold execResponseTimeout
  split
  · exact .ite (.next (onward_faultTag t _ .timeout .timeout .orphaned s)) (.stays s)
  · exact .stays s
  · exact .stays s

/-! ### Resets (R80, R137, R182, R183, R188) -/

theorem onward_softReset (s : State) : Onward s (softReset s) := .silent rfl rfl rfl

theorem onward_abortTag (t : TagId) (s : State) : Onward s (abortTag t s) := by
  unfold abortTag
  split
  · exact ((onward_answerTag _ .aborted [] s).trans (onward_endTag t _ .free _)).trans (onward_haltIfEngine _ .memoryAbort _)
  · exact .refl s
  · exact .silent rfl rfl rfl

theorem onward_linkReset (s : State) : Onward s (setSource .linkReset { s with link := .down }) := .silent rfl rfl rfl

/-- The reset signal is sent on the memory link (R137, R182). -/
theorem onward_signalReset (s : State) : Onward s { s with memoryOut := s.memoryOut ++ [.resetSignal] } :=
  ⟨rfl, List.prefix_rfl, List.prefix_append _ _⟩

theorem onward_resetMemoryPort (s : State) : Onward s (resetMemoryPort s) := by
  unfold resetMemoryPort
  exact (Onward.foldl (fun s t => onward_abortTag t s) (List.finRange 32) s).trans (onward_linkReset _)

theorem onward_signalMemoryReset (s : State) : Onward s (signalMemoryReset s) := by
  unfold signalMemoryReset
  exact (onward_resetMemoryPort s).trans (onward_signalReset _)

theorem onward_resetPort (p : PortId) (s : State) : Onward s (resetPort p s) := by
  have claim : Onward s (resetClaim p s) := by
    rw [resetClaim_fixed]
    exact .silent rfl rfl rfl
  rw [resetPort_eq]
  exact (claim.trans (onward_handTriggerIf _ _)).trans (.silent rfl rfl rfl)

theorem onward_resetPorts (mask : Byte) (s : State) : Onward s (resetPorts mask s) := by
  refine .foldl (fun s p => ?_) _ s
  split
  · exact onward_resetPort p s
  · exact .refl s

/-! ### The management window (Sections 9 and 11) -/

theorem onward_startEngine (s : State) : Onward s (startEngine s) := by
  unfold startEngine
  split <;> exact .silent rfl rfl rfl

theorem onward_stopEngine (s : State) : Onward s (stopEngine s) := by
  unfold stopEngine
  split <;> exact .silent rfl rfl rfl

theorem onward_clearEngineHalt (s : State) : Onward s (clearEngineHalt s) := by
  unfold clearEngineHalt
  split <;> exact .silent rfl rfl rfl

theorem onward_writeSubmit (v : Nat) (s : State) : Onward s (writeSubmit v s) := by
  unfold writeSubmit
  split
  · exact .refl s
  · dsimp only
    split <;> exact .silent rfl rfl rfl

theorem onward_writeRingBase (word : Fin 2) (value : Word) (s : State) : Onward s (writeRingBase word value s) := by
  unfold writeRingBase
  split <;> exact .silent rfl rfl rfl

theorem onward_writeRingSize (value : Word) (s : State) : Onward s (writeRingSize value s) := by
  unfold writeRingSize
  split <;> exact .silent rfl rfl rfl

theorem onward_writeTimebase (value : Word) (s : State) : Onward s (writeTimebase value s) := by
  unfold writeTimebase
  split <;> exact .silent rfl rfl rfl

theorem onward_writeStallLimit (p : PortId) (value : Word) (s : State) : Onward s (writeStallLimit p value s) := by
  unfold writeStallLimit
  split <;> exact .silent rfl rfl rfl

theorem onward_writeResponseTimeout (value : Word) (s : State) : Onward s (writeResponseTimeout value s) := by
  unfold writeResponseTimeout
  split <;> exact .silent rfl rfl rfl

theorem onward_writeCompletionMode (value : Word) (s : State) : Onward s (writeCompletionMode value s) := by
  unfold writeCompletionMode
  split <;> exact .silent rfl rfl rfl

theorem onward_takeControl (c : Control) (s : State) : Onward s (takeControl c s) := by
  cases c with
  | none => exact .refl s
  | start => exact onward_startEngine s
  | stop => exact onward_stopEngine s
  | clearHalt => exact onward_clearEngineHalt s
  | softReset => exact onward_softReset s
  | memoryPortReset => exact onward_signalMemoryReset s
  | portReset mask => exact onward_resetPorts mask s

theorem onward_writeRegister (r : Register) (value : Word) (s : State) : Onward s (writeRegister r value s) := by
  cases r with
  | engineControl => exact onward_takeControl _ s
  | ringBase word => exact onward_writeRingBase word value s
  | ringSize => exact onward_writeRingSize value s
  | submitIndex => exact onward_writeSubmit _ s
  | intStatus => exact .silent rfl rfl rfl
  | intEnable => exact .silent rfl rfl rfl
  | completionMode => exact onward_writeCompletionMode value s
  | timebaseMhz => exact onward_writeTimebase value s
  | responseTimeout => exact onward_writeResponseTimeout value s
  | stallLimit p => exact onward_writeStallLimit p value s
  | engineState | fault | completeIndex | capacity | committed | attention _ | poolFree | tags | link => exact .refl s

theorem onward_windowWrite (offset value : Word) (s : State) : Onward s (windowWrite offset value s) := by
  unfold windowWrite
  split
  · exact onward_writeRegister _ value s
  · exact .refl s

/-! ### Every row of the table -/

theorem answers_exec (c : Instr) (s : State) : Answers s (exec c s) := by
  cases c with
  | powerOnReset => exact .next (.silent rfl rfl rfl)
  | softReset => exact .next (onward_softReset s)
  | memoryPortReset => exact .next (onward_signalMemoryReset s)
  | memorySideReset => exact .next (onward_resetMemoryPort s)
  | portReset mask => exact .next (onward_resetPorts mask s)
  | clientPortReset p => exact .next (onward_resetPort p s)
  | start => exact .next (onward_startEngine s)
  | stop => exact .next (onward_stopEngine s)
  | clearHalt => exact .next (onward_clearEngineHalt s)
  | submitIndexWrite value => exact .next (onward_writeSubmit _ s)
  | ringBaseWrite word value => exact .next (onward_writeRingBase word value s)
  | ringSizeWrite value => exact .next (onward_writeRingSize value s)
  | intStatusWrite value => exact .next (.silent rfl rfl rfl)
  | intEnableWrite value => exact .next (.silent rfl rfl rfl)
  | timebaseMhzWrite value => exact .next (onward_writeTimebase value s)
  | registerWrite offset value => exact .next (onward_windowWrite offset value s)
  | microsecondEvent => exact answers_microsecondEvent s
  | periodTimerExpiry l => exact answers_periodTimerExpiry l s
  | periodEnd l => exact answers_periodEnd l s
  | stallExpiry p => exact answers_stallExpiry p s
  | responseTimeout t => exact answers_responseTimeout t s
  | requestArrival p r => exact answers_requestArrival p r s
  | portHeadExamination => exact answers_portHeadExamination s
  | releasedEntryExamination => exact answers_releasedEntryExamination s
  | engineRequestExamination => exact answers_engineRequestExamination s
  | issue => exact answers_issue s
  | memoryResponse t status data => exact answers_memoryResponse t status data s
  | readySignal => exact .ite (.stays s) (.next (.silent rfl rfl rfl))
  | nop body => exact .next (onward_answerFetch _ (onward_takeNop _) s)
  | openLease body => exact .next (onward_answerFetch _ (onward_takeOpenLease _) s)
  | resizeLease body => exact .next (onward_answerFetch _ (onward_takeResizeLease _) s)
  | renewLease body => exact .next (onward_answerFetch _ (onward_takeRenewLease _) s)
  | suspendLease body => exact .next (onward_answerFetch _ (onward_takeSuspendLease _) s)
  | resumeLease body => exact .next (onward_answerFetch _ (onward_takeResumeLease _) s)
  | retireLease body => exact .next (onward_answerFetch _ (onward_takeRetireLease _) s)
  | bindStream body => exact .next (onward_answerFetch _ (onward_takeBindStream _) s)
  | unbindStream body => exact .next (onward_answerFetch _ (onward_takeUnbindStream _) s)
  | queryLease body => exact .next (onward_answerFetch _ (onward_takeQueryLease _) s)
  | ackAttention body => exact .next (onward_answerFetch _ (onward_takeAckAttention _) s)
  | setCapacity body => exact .next (onward_answerFetch _ (onward_takeSetCapacity _) s)
  | readyLevelDeasserted => exact .next (.silent rfl rfl rfl)
  | unknownCommandCode code body => exact .next (onward_answerFetch _ (onward_takeRecord _) s)

end Sys2Proof.Machine

open Sys2Proof Sys2Proof.Machine

/-- Settles O2: row by row (`answers_exec`), each row by the operations it is made of. -/
theorem everyCommandIsTaken : Obligations.EveryCommandIsTaken := by
  unfold Obligations.EveryCommandIsTaken
  intro c s
  obtain ⟨t, taken, onward⟩ := answers_exec c s
  exact ⟨t, taken, onward.pending, onward.sent, onward.memoryOut⟩

end

section
/-!
PROOF. The round robin of admission (O22): the ring read from the position after the last-served one meets its positions in the
order of their distance.
-/

namespace Sys2Proof.Machine

/-! ### The ring (R89, R90) -/

/-- How many positions of the ring lie between the last-served position and a position after it. -/
def ringDistance (last i : Fin 72) : Nat := (i - last - 1).val

/-- A position stands in the ring at its distance. -/
theorem ringFrom_at_distance (last i : Fin 72) : last + (i - last - 1) + 1 = i := by abel

/-- The position that stands at a place of the ring has that place as its distance. -/
theorem ringDistance_add (last d : Fin 72) : ringDistance last (last + d + 1) = d.val := by
  have back : last + d + 1 - last - 1 = d := by abel
  unfold ringDistance
  rw [back]

/-- The first position of the ring that passes a test is the one that passes it at the smallest distance. -/
theorem find_ringFrom (last i : Fin 72) (test : Fin 72 → Bool) :
    (ringFrom last).find? test = some i ↔
      test i = true ∧ ∀ j : Fin 72, test j = true → ringDistance last i ≤ ringDistance last j := by
  simp only [List.find?_eq_some_iff_getElem, ringFrom, List.length_map, List.length_finRange, List.getElem_map,
    List.getElem_finRange, Fin.cast_mk, Bool.not_eq_eq_eq_not, Bool.not_true]
  constructor
  · rintro ⟨passes, d, bound, rfl, earlier⟩
    refine ⟨passes, fun j other => ?_⟩
    have place : ringDistance last (last + ⟨d, bound⟩ + 1) = d := ringDistance_add last ⟨d, bound⟩
    rw [place]
    by_contra before
    have failed := earlier (ringDistance last j) (Nat.lt_of_not_le before)
    have same : last + ⟨ringDistance last j, (j - last - 1).isLt⟩ + 1 = j := ringFrom_at_distance last j
    rw [same, other] at failed
    exact absurd failed (by decide)
  · rintro ⟨passes, nearest⟩
    refine ⟨passes, ringDistance last i, (i - last - 1).isLt, ringFrom_at_distance last i, fun d before => ?_⟩
    have bound : d < 72 := before.trans (i - last - 1).isLt
    by_contra other
    have further := nearest (last + ⟨d, bound⟩ + 1) (by simpa using other)
    rw [ringDistance_add] at further
    exact absurd before (Nat.not_lt.mpr further)

/-- Positions 0 to 7 are the ports. -/
theorem ringItem_port {i : Fin 72} {p : PortId} (h : i.val = p.val) : ringItem i = .port p := by
  have below : i.val < 8 := h ▸ p.isLt
  unfold ringItem
  rw [dif_pos below]
  exact congrArg RingItem.port (Fin.ext h)

/-- Position 8 is the engine. -/
theorem ringItem_engine {i : Fin 72} (h : i.val = 8) : ringItem i = .engine := by
  have above : ¬ i.val < 8 := by omega
  unfold ringItem
  rw [dif_neg above, if_pos h]

/-- Positions 9 to 71 are the releases of leases 1 to 63. -/
theorem ringItem_release {i : Fin 72} {l : LeaseId} (other : l ≠ 0) (h : i.val = 8 + l.val) : ringItem i = .release l := by
  have positive : l.val ≠ 0 := fun zero => other (Fin.ext zero)
  have above : ¬ i.val < 8 := by omega
  have after : ¬ i.val = 8 := by omega
  unfold ringItem
  rw [dif_neg above, if_neg after]
  exact congrArg RingItem.release (Fin.ext (by dsimp only; omega))

/-! ### What waits at a position (R89) -/

theorem waiting_port {s : State} {i : Fin 72} {p : PortId} (position : ringItem i = .port p) :
    waiting s i = true ↔ (s.port p).head = .examining ∧ (s.port p).fifo ≠ [] := by
  unfold waiting
  rw [position]
  simp

theorem waiting_release {s : State} {i : Fin 72} {l : LeaseId} (position : ringItem i = .release l) :
    waiting s i = true ↔ s.release l = .running ∧ s.holdQueue l ≠ [] := by
  unfold waiting
  rw [position]
  simp

/-- The engine presents a request in BUSY alone, while its request is PRESENTED. -/
theorem EngineState.presents_iff (e : EngineState) :
    e.presents = true ↔ ∃ (step : EngineStep) (stopPending : Bool), e = .busy step .presented stopPending := by
  unfold EngineState.presents
  split
  · exact iff_of_true rfl ⟨_, _, rfl⟩
  · rename_i other
    exact iff_of_false Bool.false_ne_true fun ⟨step, stopPending, presented⟩ => other step stopPending presented

theorem waiting_engine {s : State} {i : Fin 72} (position : ringItem i = .engine) :
    waiting s i = true ↔
      ∃ (step : EngineStep) (stopPending : Bool), s.engine.state = .busy step .presented stopPending := by
  unfold waiting
  rw [position]
  exact s.engine.state.presents_iff

end Sys2Proof.Machine

open Sys2Proof Sys2Proof.Machine

/-- Settles O22: the search of the ring finds the nearest waiting position (`find_ringFrom`), and each position by what
stands there. -/
theorem roundRobinServesFirstWaiting : Obligations.RoundRobinServesFirstWaiting := by
  unfold Obligations.RoundRobinServesFirstWaiting
  intro s i
  refine ⟨find_ringFrom s.lastServed i (waiting s), fun p at_port => ?_, fun at_engine => ?_, fun l other at_release => ?_⟩
  · have position := ringItem_port at_port
    exact ⟨position, waiting_port position⟩
  · have position := ringItem_engine at_engine
    exact ⟨position, waiting_engine position⟩
  · have position := ringItem_release other at_release
    exact ⟨position, waiting_release position⟩

end

section
/-!
PROOF. What the admission unit tests on a lease record, and the examination of a port head in full (O23, O24).
-/

namespace Sys2Proof.Machine

/-! ### The path of a record through admission (R94 to R97, Tables 1-2 and 6-2) -/

/-- The paths on which the oversize stage applies (R95). -/
theorem Lease.limited_iff (r : Lease) : r.limited = true ↔
    r.cls = .guaranteed ∧ r.overdrawPermitted = false ∨ r.cls = .capped ∨ r.cls = .shared ∧ r.regime = .curb := by
  unfold Lease.limited
  cases h : r.cls <;> simp

/-- The paths on which the hold test compares with the credit (R96). -/
theorem Lease.creditTested_iff (r : Lease) : r.creditTested = true ↔
    r.cls = .guaranteed ∨ r.cls = .capped ∨ r.cls = .shared ∧ r.regime = .curb := by
  unfold Lease.creditTested
  cases h : r.cls <;> simp

theorem Lease.oversize_iff (r : Lease) (n : Nat) : r.oversize n = true ↔
    (r.cls = .guaranteed ∧ r.overdrawPermitted = false ∨ r.cls = .capped ∨ r.cls = .shared ∧ r.regime = .curb) ∧
      r.budget + r.carryLimit < n := by
  rw [← r.limited_iff]
  simp [Lease.oversize]

theorem Lease.creditShort_iff (r : Lease) (n : Nat) : r.creditShort n = true ↔
    (r.cls = .guaranteed ∨ r.cls = .capped ∨ r.cls = .shared ∧ r.regime = .curb) ∧ r.credit < r.spent + n := by
  rw [← r.creditTested_iff]
  simp [Lease.creditShort]

/-- GUARANTEED leases are charged into the G queue, the others into the S queue (Table 1-2). -/
theorem Lease.target_eq (r : Lease) : r.target = if r.cls = .guaranteed then .g else .s := by
  unfold Lease.target
  cases h : r.cls <;> rfl

/-- The fence shuts a request out: its 4 KiB block lies below the first or above the last, or its direction is not the permitted
access (R7, R94). -/
def Lease.fenceExcludes (r : Lease) (address : Address) (direction : Direction) : Bool :=
  match r.fence with
  | none => false
  | some w => decide (address.toNat / 4096 < w.base ∨ w.limit < address.toNat / 4096 ∨
      w.access = .read ∧ direction = .write ∨ w.access = .write ∧ direction = .read)

theorem Lease.fenceAdmits_eq_not (r : Lease) (address : Address) (direction : Direction) :
    r.fenceAdmits address direction = !r.fenceExcludes address direction := by
  unfold Lease.fenceAdmits Lease.fenceExcludes
  cases r.fence with
  | none => rfl
  | some w => cases permitted : w.access <;> cases direction <;> simp [permitted, ← decide_not]

/-- A placement in either queue, one field at a time. -/
theorem place_eq (s : State) (q : QueueName) (e : DispatchEntry) : s.place q e = { s with
    gQueue := if q = .g then s.gQueue ++ [e] else s.gQueue
    sQueue := if q = .s then s.sQueue ++ [e] else s.sQueue } := by
  cases q <;> rfl

/-- A charge and placement changes the lease's record and, by its entry, one dispatch queue. -/
theorem chargeAndPlace_record (e : DispatchEntry) (s : State) : chargeAndPlace e s =
    { s.place (s.lease e.lease).target e with
      leases := s.leases.set e.lease.val ((s.lease e.lease).charge e.length) } := by
  unfold chargeAndPlace
  simp only [place_eq]
  rfl

/-! ### The stages of a port head (R92 to R100) -/

theorem formOk_iff (r : PortRequest) : formOk r = true ↔
    1 ≤ r.length.val ∧ r.length.val ≤ 16 ∧ r.address.toNat % 32 = 0 ∧
      r.address.toNat % 4096 + 32 * r.length.val ≤ 4096 := by
  simp [formOk, and_assoc]

theorem portOutcome_of_malformed {r : PortRequest} (h : formOk r = false) (s : State) (p : PortId) :
    portOutcome s p r = .refuse .refusedForm := by
  simp [portOutcome, h]

theorem portOutcome_of_unbound {s : State} {p : PortId} {r : PortRequest} (form : formOk r = true)
    (unbound : s.slot p r.tag = none) : portOutcome s p r = .refuse .refusedUnbound := by
  simp [portOutcome, form, unbound]

theorem portOutcome_of_bound {s : State} {p : PortId} {r : PortRequest} {l : LeaseId} (form : formOk r = true)
    (bound : s.slot p r.tag = some l) : portOutcome s p r = leaseOutcome s l r := by
  simp [portOutcome, form, bound]

section Stages

variable {s : State} {l : LeaseId} {r : PortRequest}

theorem leaseOutcome_of_outside (outside : (s.lease l).fenceAdmits r.address r.direction = false) :
    leaseOutcome s l r = .refuseCounted l .refusedFence := by
  simp [leaseOutcome, outside]

variable (inside : (s.lease l).fenceAdmits r.address r.direction = true)

include inside

theorem leaseOutcome_of_oversize (tooLong : (s.lease l).oversize r.length.val = true) :
    leaseOutcome s l r = .refuseCounted l .refusedOversize := by
  simp [leaseOutcome, inside, tooLong]

variable (fits : (s.lease l).oversize r.length.val = false)

include fits

/-- A head waits behind a suspension, behind held entries of its lease, or for credit (R96). -/
theorem leaseOutcome_of_waits (waits : (s.lease l).state = .suspended ∨ 0 < (s.lease l).heldCount ∨
      (s.lease l).creditShort r.length.val = true ∧ (s.lease l).overdrawPermitted = false) :
    leaseOutcome s l r = waitOutcome s l := by
  unfold leaseOutcome
  by_cases behind : (s.lease l).state = .suspended ∨ 0 < (s.lease l).heldCount
  · simp [inside, fits, behind]
  · obtain ⟨short, strict⟩ : (s.lease l).creditShort r.length.val = true ∧ (s.lease l).overdrawPermitted = false := by tauto
    simp only [inside, fits, behind, short, strict]
    rfl

/-- A head that need not wait goes on to the overdraw or the charge (R97, R100). -/
theorem leaseOutcome_of_passes (passes : ¬ ((s.lease l).state = .suspended ∨ 0 < (s.lease l).heldCount ∨
      (s.lease l).creditShort r.length.val = true ∧ (s.lease l).overdrawPermitted = false)) :
    leaseOutcome s l r =
      if (s.lease l).creditShort r.length.val then (if s.queueFree .s then .overdraw l else .block l)
      else if s.queueFree (s.lease l).target then .charge l else .block l := by
  obtain ⟨active, empty, permitted⟩ : (s.lease l).state ≠ .suspended ∧ ¬ 0 < (s.lease l).heldCount ∧
      ((s.lease l).creditShort r.length.val = true → (s.lease l).overdrawPermitted = true) := by
    simpa [not_or] using passes
  unfold leaseOutcome
  by_cases short : (s.lease l).creditShort r.length.val = true
  · simp [inside, fits, active, empty, short, permitted short]
  · simp [inside, fits, active, empty, short]

end Stages

/-! ### What each outcome does (R71, Table 6-3) -/

/-- The placement of a charged head: the record is charged and the head leaves its FIFO. -/
theorem applyPortOutcome_charge (p : PortId) (r : PortRequest) (l : LeaseId) (s : State) :
    applyPortOutcome p r (.charge l) s =
      (State.place { s with ports := s.ports.set p.val (s.port p).depart } (s.lease l).target
        (entryOfRequest p l r)).setLease l ((s.lease l).charge r.length.val) := by
  unfold applyPortOutcome
  simp only [chargeAndPlace_record, place_eq]
  rfl

/-- The status an outcome answers the head with, if it answers it. -/
def PortOutcome.answer : PortOutcome → Option ClientStatus
  | .refuse status => some status
  | .refuseCounted _ status => some status
  | .overdraw _ => none
  | .hold _ => none
  | .block _ => none
  | .charge _ => none

/-- An outcome sends its answer and nothing else. -/
theorem sent_applyPortOutcome (p : PortId) (r : PortRequest) (o : PortOutcome) (s : State) :
    (applyPortOutcome p r o s).sent = s.sent ++
      o.answer.toList.map fun status => { port := p, clientId := r.clientId, status := status, data := [] } := by
  have silent : s.sent = s.sent ++ [] := (List.append_nil _).symm
  cases o with
  | refuse status => rfl
  | refuseCounted l status => rfl
  | overdraw l => exact silent
  | hold l => exact silent
  | block l => exact silent
  | charge l =>
    rw [applyPortOutcome_charge, place_eq]
    exact silent

theorem answer_waitOutcome (s : State) (l : LeaseId) : (waitOutcome s l).answer = none := by
  unfold waitOutcome
  split <;> rfl

/-- The lease's stages never answer REFUSED_FORM (R94, R95). -/
theorem answer_leaseOutcome (s : State) (l : LeaseId) (r : PortRequest) :
    (leaseOutcome s l r).answer ≠ some .refusedForm := by
  unfold leaseOutcome
  dsimp only
  split_ifs with fence oversize waits short overdraws free target
  · nofun
  · nofun
  · rw [answer_waitOutcome]
    nofun
  · nofun
  · nofun
  · rw [answer_waitOutcome]
    nofun
  · nofun
  · nofun

/-- A head that passes the form stage is not answered REFUSED_FORM (R92). -/
theorem answer_portOutcome {r : PortRequest} (form : formOk r = true) (s : State) (p : PortId) :
    (portOutcome s p r).answer ≠ some .refusedForm := by
  cases slot : s.slot p r.tag with
  | none =>
    rw [portOutcome_of_unbound form slot]
    decide
  | some l =>
    rw [portOutcome_of_bound form slot]
    exact answer_leaseOutcome s l r

/-! ### The row of the examination -/

/-- The examination of the port served takes the outcome of its head. -/
theorem exec_portHeadExamination {z : State} {i : Fin 72} {p : PortId} {r : PortRequest} {rest : List PortRequest}
    (served : nextServed (takeTriggers z) = some i) (position : ringItem i = .port p)
    (head : ((takeTriggers z).port p).fifo = r :: rest) :
    exec .portHeadExamination z = .next
      (applyPortOutcome p r (portOutcome (takeTriggers z) p r) { takeTriggers z with lastServed := i }) := by
  have row : exec .portHeadExamination z = .next (examinePort p { takeTriggers z with lastServed := i }) := by
    show execPortHeadExamination z = _
    simp only [execPortHeadExamination, served, position]
  have examined : examinePort p { takeTriggers z with lastServed := i } =
      applyPortOutcome p r (portOutcome (takeTriggers z) p r) { takeTriggers z with lastServed := i } := by
    unfold examinePort
    rw [show (State.port { takeTriggers z with lastServed := i } p).fifo = r :: rest from head]
    rfl
  rw [row, examined]

end Sys2Proof.Machine

open Sys2Proof Sys2Proof.Machine

/-- Settles O23: a malformed head has the outcome REFUSED_FORM, and no other stage answers so (`answer_portOutcome`). -/
theorem portHeadFormStage : Obligations.PortHeadFormStage := by
  unfold Obligations.PortHeadFormStage
  intro z i p r rest s served position head passes
  have examined := exec_portHeadExamination served position head
  refine ⟨fun malformed => ?_, fun wellFormed => ?_⟩
  · have form : formOk r = false := by
      rw [← Bool.not_eq_true, formOk_iff]
      exact malformed
    rw [examined, portOutcome_of_malformed form, ← Port.depart_eq head]
    rfl
  · have form : formOk r = true := (formOk_iff r).mpr wellFormed
    refine ⟨_, _, examined, sent_applyPortOutcome p r _ _, fun x answered => ?_⟩
    obtain ⟨status, answers, rfl⟩ := List.mem_map.mp answered
    rintro rfl
    exact answer_portOutcome form _ p (Option.mem_toList.mp answers)

/-- Settles O24: stage by stage, each test by its equivalence with the one of the model, each outcome by what it does. -/
theorem portHeadStagesAfterForm : Obligations.PortHeadStagesAfterForm := by
  unfold Obligations.PortHeadStagesAfterForm
  intro z i p r rest s served position head wellFormed n departed refused placed
  have form : formOk r = true := (formOk_iff r).mpr wellFormed
  have examined := exec_portHeadExamination served position head
  have gone : (s.port p).depart = departed := Port.depart_eq head
  clear_value departed
  subst gone
  refine ⟨fun unbound => ?_, fun l bound => ?_⟩
  · rw [examined, portOutcome_of_unbound form unbound]
    rfl
  · rw [portOutcome_of_bound form bound] at examined
    intro a counted blocked limited tested short mustWait target block outside
    have fence : a.fenceAdmits r.address r.direction = !outside := a.fenceAdmits_eq_not r.address r.direction
    have tooLong : a.oversize n = true ↔ limited ∧ a.budget + a.carryLimit < n := a.oversize_iff n
    have under : a.creditShort n = true ↔ short := a.creditShort_iff n
    have waits : mustWait ↔ a.state = .suspended ∨ 0 < a.heldCount ∨
        a.creditShort n = true ∧ a.overdrawPermitted = false := by
      rw [under]
    have aimed : a.target = target := a.target_eq
    by_cases isOutside : outside = true
    · have shut : a.fenceAdmits r.address r.direction = false := by simp [fence, isOutside]
      rw [if_pos isOutside, examined, leaseOutcome_of_outside shut]
      rfl
    have inside : a.fenceAdmits r.address r.direction = true := by simp [fence, isOutside]
    rw [if_neg isOutside]
    by_cases isTooLong : limited ∧ a.budget + a.carryLimit < n
    · rw [if_pos isTooLong, examined, leaseOutcome_of_oversize inside (tooLong.mpr isTooLong)]
      rfl
    have fits : a.oversize n = false := Bool.eq_false_iff.mpr (mt tooLong.mp isTooLong)
    rw [if_neg isTooLong]
    by_cases isWaiting : mustWait
    · rw [if_pos isWaiting, examined, leaseOutcome_of_waits inside fits (waits.mp isWaiting), waitOutcome]
      by_cases hasRoom : a.heldCount < a.holdLimit ∧ 0 < s.poolFree
      · rw [if_pos hasRoom, if_pos hasRoom]
        rfl
      · rw [if_neg hasRoom, if_neg hasRoom]
        rfl
    rw [if_neg isWaiting, examined, leaseOutcome_of_passes inside fits (mt waits.mpr isWaiting)]
    by_cases isShort : short
    · rw [if_pos isShort, if_pos (under.mpr isShort)]
      by_cases sFree : s.sQueue.length < 16
      · rw [if_pos sFree, if_pos ((queueFree_iff s .s).mpr sFree)]
        rfl
      · rw [if_neg sFree, if_neg (mt (queueFree_iff s .s).mp sFree)]
        rfl
    rw [if_neg isShort, if_neg (mt under.mp isShort), aimed]
    by_cases targetFree : (s.queue target).length < 16
    · rw [if_pos targetFree, if_pos ((queueFree_iff s target).mpr targetFree), applyPortOutcome_charge, ← aimed]
      rfl
    · rw [if_neg targetFree, if_neg (mt (queueFree_iff s target).mp targetFree)]
      rfl

end

section
/-!
PROOF. The examination of a released entry (O25) and of an engine request (O26) in full.
-/

namespace Sys2Proof.Machine

/-! ### The steps of a released entry (R101) -/

section Steps

variable {s : State} {l : LeaseId} {e : HeldEntry}

theorem releaseOutcome_of_closed (closed : (s.lease l).state ≠ .opened) : releaseOutcome s l e = .stop :=
  if_pos closed

variable (opened : (s.lease l).state = .opened)

include opened

theorem releaseOutcome_of_oversize (tooLong : (s.lease l).oversize e.length = true) : releaseOutcome s l e = .refused := by
  simp [releaseOutcome, opened, tooLong]

variable (fits : (s.lease l).oversize e.length = false)

include fits

/-- An entry that is short of credit stops the release, or goes on as overdraw where the lease permits that (R101). -/
theorem releaseOutcome_of_short (short : (s.lease l).creditShort e.length = true) : releaseOutcome s l e =
    if (s.lease l).overdrawPermitted then (if s.queueFree .s then .placedOverdraw else .pause) else .stop := by
  simp [releaseOutcome, opened, fits, short]

theorem releaseOutcome_of_covered (covered : (s.lease l).creditShort e.length = false) :
    releaseOutcome s l e = if s.queueFree (s.lease l).target then .placed else .pause := by
  simp [releaseOutcome, opened, fits, covered]

end Steps

/-! ### What a placement or a refusal does (R113) -/

/-- The head of a hold queue leaves after a change of the lease's record that leaves the queues, the pool and the releases. -/
theorem leaveHoldQueue_of_record {s t : State} {l : LeaseId} {r : Lease} {e : HeldEntry} {rest : List HeldEntry}
    (leases : t.leases = s.leases.set l.val r) (held : t.holdQueue l = e :: rest) :
    leaveHoldQueue l t = handTrigger { t with
      leases := s.leases.set l.val { r with heldCount := r.heldCount - 1 }
      holdQueues := t.holdQueues.set l.val rest
      poolFree := t.poolFree + 1
      releases := t.releases.set l.val (if rest = [] then .idle else .running) } := by
  have record : t.lease l = r := (lease_of_set s leases l).trans (if_pos rfl)
  rw [leaveHoldQueue_eq]
  unfold leaveHeld
  rw [record, leases, Vector.set_set, held]
  rfl

/-- A charged entry is placed in the target queue and leaves its hold queue. -/
theorem applyReleaseOutcome_placed {s : State} {l : LeaseId} {e : HeldEntry} {rest : List HeldEntry}
    (held : s.holdQueue l = e :: rest) :
    applyReleaseOutcome l e .placed s = handTrigger { s.place (s.lease l).target (entryOfHeld l e) with
      leases := s.leases.set l.val
        { (s.lease l).charge e.length with heldCount := ((s.lease l).charge e.length).heldCount - 1 }
      holdQueues := s.holdQueues.set l.val rest
      poolFree := s.poolFree + 1
      releases := s.releases.set l.val (if rest = [] then .idle else .running) } := by
  have charged := chargeAndPlace_record (entryOfHeld l e) s
  have leases : (chargeAndPlace (entryOfHeld l e) s).leases = s.leases.set l.val ((s.lease l).charge e.length) := by
    rw [charged]
    rfl
  have kept : (chargeAndPlace (entryOfHeld l e) s).holdQueue l = e :: rest := by
    rw [charged, place_eq]
    exact held
  rw [applyReleaseOutcome, leaveHoldQueue_of_record leases kept, charged]
  simp only [place_eq]
  rfl

/-! ### The row of a released entry -/

/-- The examination of the release served takes the outcome of its head entry. -/
theorem exec_releasedEntryExamination {z : State} {i : Fin 72} {l : LeaseId} {e : HeldEntry} {rest : List HeldEntry}
    (served : nextServed (takeTriggers z) = some i) (position : ringItem i = .release l)
    (held : (takeTriggers z).holdQueue l = e :: rest) :
    exec .releasedEntryExamination z = .next
      (applyReleaseOutcome l e (releaseOutcome (takeTriggers z) l e) { takeTriggers z with lastServed := i }) := by
  have row : exec .releasedEntryExamination z = .next (examineRelease l { takeTriggers z with lastServed := i }) := by
    show execReleasedEntryExamination z = _
    simp only [execReleasedEntryExamination, served, position]
  have examined : examineRelease l { takeTriggers z with lastServed := i } =
      applyReleaseOutcome l e (releaseOutcome (takeTriggers z) l e) { takeTriggers z with lastServed := i } := by
    unfold examineRelease
    rw [show State.holdQueue { takeTriggers z with lastServed := i } l = e :: rest from held]
    rfl
  rw [row, examined]

/-! ### Engine requests (R102) -/

/-- A charge to a lease that is not SHARED leaves its credit (R6, R100). -/
theorem Lease.charge_of_not_shared {r : Lease} (h : r.cls ≠ .shared) (n : Nat) : r.charge n = { r with
    spent := satAdd32 r.spent n
    admittedBeats := satAdd32 r.admittedBeats n
    outstanding := r.outstanding + 1 } := by
  have other : ¬ (r.cls = .shared ∧ r.regime = .watch) := fun shared => h shared.1
  unfold Lease.charge
  dsimp only
  rw [if_neg other]

theorem creditShort_of_guaranteed {r : Lease} (h : r.cls = .guaranteed) (n : Nat) :
    r.creditShort n = true ↔ r.credit < r.spent + n := by
  rw [Lease.creditShort_iff]
  exact and_iff_right (.inl h)

/-- The examination of the engine's request waits for credit and for room in the G queue, then charges lease 0 and places it. -/
theorem examineEngine_eq {s : State} {step : EngineStep} {phase : RequestPhase} {stopPending : Bool} {e : DispatchEntry}
    (busy : s.engine.state = .busy step phase stopPending) (guaranteed : (s.lease 0).cls = .guaranteed)
    (entry : engineEntry s.engine step = e) :
    examineEngine s =
      if (s.lease 0).credit < (s.lease 0).spent + e.length ∨ 16 ≤ s.gQueue.length then
        s.setEngineState (.busy step .waiting stopPending)
      else ((s.setLease 0 { s.lease 0 with
        spent := satAdd32 (s.lease 0).spent e.length
        admittedBeats := satAdd32 (s.lease 0).admittedBeats e.length
        outstanding := (s.lease 0).outstanding + 1 }).place .g e).setEngineState (.busy step .placed stopPending) := by
  have short := creditShort_of_guaranteed guaranteed e.length
  have full : (!s.queueFree .g) = true ↔ 16 ≤ s.gQueue.length := by
    rw [Bool.not_eq_true', ← Bool.not_eq_true, queueFree_iff]
    exact Nat.not_lt
  unfold examineEngine
  rw [busy]
  dsimp only
  rw [entry, Lease.charge_of_not_shared (by simp [guaranteed])]
  by_cases isShort : (s.lease 0).creditShort e.length = true
  · rw [if_pos isShort, if_pos (.inl (short.mp isShort))]
  rw [if_neg isShort]
  by_cases isFull : 16 ≤ s.gQueue.length
  · rw [if_pos (full.mpr isFull), if_pos (.inr isFull)]
  · rw [if_neg (mt full.mp isFull), if_neg (not_or.mpr ⟨mt short.mpr isShort, isFull⟩)]

end Sys2Proof.Machine

open Sys2Proof Sys2Proof.Machine

/-- Settles O25: step by step, each test by its equivalence with the one of the model, each outcome by what it does. -/
theorem releasedEntryStages : Obligations.ReleasedEntryStages := by
  unfold Obligations.ReleasedEntryStages
  intro z i l e rest s served position held a n left entry limited tested short target
  have examined := exec_releasedEntryExamination served position held
  have tooLong : a.oversize n = true ↔ limited ∧ a.budget + a.carryLimit < n := a.oversize_iff n
  have under : a.creditShort n = true ↔ short := a.creditShort_iff n
  have aimed : a.target = target := a.target_eq
  by_cases closed : a.state ≠ .opened
  · rw [if_pos closed, examined, releaseOutcome_of_closed closed]
    rfl
  have opened : a.state = .opened := not_not.mp closed
  rw [if_neg closed]
  by_cases isTooLong : limited ∧ a.budget + a.carryLimit < n
  · rw [if_pos isTooLong, examined, releaseOutcome_of_oversize opened (tooLong.mpr isTooLong)]
    exact congrArg Host.Outcome.next (leaveHoldQueue_of_record rfl held)
  have fits : a.oversize n = false := Bool.eq_false_iff.mpr (mt tooLong.mp isTooLong)
  rw [if_neg isTooLong]
  by_cases isShort : short
  · rw [releaseOutcome_of_short opened fits (under.mpr isShort)] at examined
    by_cases strict : a.overdrawPermitted = false
    · rw [if_pos ⟨isShort, strict⟩, examined, if_neg (Bool.eq_false_iff.mp strict)]
      rfl
    have permitted : a.overdrawPermitted = true := by simpa using strict
    rw [if_neg fun stops => strict stops.2, if_pos isShort, examined, if_pos permitted]
    by_cases sFree : s.sQueue.length < 16
    · rw [if_pos sFree, if_pos ((queueFree_iff s .s).mpr sFree)]
      exact congrArg Host.Outcome.next (leaveHoldQueue_of_record rfl held)
    · rw [if_neg sFree, if_neg (mt (queueFree_iff s .s).mp sFree)]
      rfl
  · have covered : a.creditShort n = false := Bool.eq_false_iff.mpr (mt under.mp isShort)
    rw [if_neg fun stops => isShort stops.1, if_neg isShort, examined, releaseOutcome_of_covered opened fits covered, aimed]
    by_cases targetFree : (s.queue target).length < 16
    · rw [if_pos targetFree, if_pos ((queueFree_iff s target).mpr targetFree),
        applyReleaseOutcome_placed (s := { s with lastServed := i }) held, ← aimed]
      simp only [left, place_eq]
      rfl
    · rw [if_neg targetFree, if_neg (mt (queueFree_iff s target).mp targetFree)]
      rfl

/-- Settles O26: the row serves the engine, and its request waits or is charged and placed (`examineEngine_eq`). -/
theorem engineRequestChargedOrWaits : Obligations.EngineRequestChargedOrWaits := by
  unfold Obligations.EngineRequestChargedOrWaits
  intro z i step stopPending s served position busy guaranteed access n a
  have row : exec .engineRequestExamination z = .next (examineEngine { s with lastServed := i }) := by
    show execEngineRequestExamination z = _
    simp only [execEngineRequestExamination]
    rw [served]
    dsimp only
    rw [position]
  have same : engineEntry s.engine step =
      { lease := 0, origin := .engine, direction := access.1, address := access.2.1, length := n, data := access.2.2.2 } := by
    cases step <;> rfl
  rw [row, examineEngine_eq (s := { s with lastServed := i }) busy guaranteed same]
  rfl

end

section
/-!
PROOF. The law of the hold queues and the pool, kept by every step (O52).
-/

open Sys2Proof Sys2Proof.Machine

/-- Settles O52: every change a step is made of keeps the hold law and the stream law together (`holdStreamLaw_change`). The stream
law is what lets a request join a hold queue: the slot it came through names an OPEN or SUSPENDED lease, so that the hold queues of
FREE and DRAINING leases stay empty. -/
theorem holdLawIsKept : Obligations.HoldLawIsKept := by
  unfold Obligations.HoldLawIsKept
  intro s t hold stream stepped
  have kept : HoldStreamLaw t := (step_changes stepped).keep holdStreamLaw_change ⟨hold, stream⟩
  exact kept.1

end

section
/-!
PROOF. The laws of outstanding, of the engine's one request, of the dispatch queues and of the link, kept by every step (O53, O57,
O59).
-/

open Sys2Proof Sys2Proof.Machine

/-- Settles O53: every change a step is made of moves outstanding of a lease by what it moves among the dispatch entries and ISSUED
tags that name it (`outstandingLaw_change`). -/
theorem outstandingLawIsKept : Obligations.OutstandingLawIsKept := by
  unfold Obligations.OutstandingLawIsKept
  exact fun s t law stepped => (step_changes stepped).keep outstandingLaw_change law

/-- Settles O57: the changes that move an engine entry or an engine tag move the phase of the engine's request with it
(`engineRequestLaw_change`). -/
theorem engineRequestLawIsKept : Obligations.EngineRequestLawIsKept := by
  unfold Obligations.EngineRequestLawIsKept
  exact fun s t law stepped => (step_changes stepped).keep engineRequestLaw_change law

/-- Settles O59: an entry joins a queue that has room, the G-run count stops at 8 (`queueLaw_change`); a tag is taken in LINK_UP alone,
and the link goes down with every tag FREE (`linkLaw_change`). -/
theorem queueAndLinkLawsAreKept : Obligations.QueueAndLinkLawsAreKept := by
  unfold Obligations.QueueAndLinkLawsAreKept
  exact fun s t queue link stepped =>
    ⟨(step_changes stepped).keep queueLaw_change queue, (step_changes stepped).keep linkLaw_change link⟩

end

section
/-!
PROOF. The end of a tag by a fault, as one change of the state: a response timeout and a response ERROR (O20, O29), the answers to
clients (O29), late and stray responses (O30).
-/

namespace Sys2Proof.Machine

/-! ### The end of a tag with a fault counted (R8, R123, R130, R133) -/

/-- A fault counted empties no reason set. -/
theorem Lease.reasons_eq_zero_of_faulted {r : Lease} (h : r.faulted.reasons = 0) : r.reasons = 0 :=
  ((r.raised_eq_zero .fault).mp h).1

/-- All that the end of a tag does: the tag, and the fall of outstanding of its lease. -/
theorem endTag_eq (k : TagId) (f : IssuedTag) (after : Tag) (s : State) : endTag k f after s = { s with
    leases := s.leases.set f.lease.val (s.lease f.lease).fallen
    timers := if (s.lease f.lease).state = .draining ∧ (s.lease f.lease).outstanding = 1 then
        s.timers.set f.lease.val (s.timer f.lease).drained
      else s.timers
    tags := s.tags.set k.val after
    attention := s.attentionAfter f.lease (s.lease f.lease).fallen.reasons
    intStatus := s.statusAfter f.lease (s.lease f.lease).fallen.reasons } := by
  unfold endTag
  rw [fallOutstanding_eq]
  rfl

/-- All that the end of a tag does after a fault is counted on its lease: FAULT and FREED bring the lease into the attention set as
they do together. -/
theorem endTag_countFault_eq (k : TagId) (f : IssuedTag) (after : Tag) (s : State) :
    endTag k f after (countFault f.lease s) = { s with
      leases := s.leases.set f.lease.val (s.lease f.lease).faulted.fallen
      timers := if (s.lease f.lease).state = .draining ∧ (s.lease f.lease).outstanding = 1 then
          s.timers.set f.lease.val (s.timer f.lease).drained
        else s.timers
      tags := s.tags.set k.val after
      attention := s.attentionAfter f.lease (s.lease f.lease).faulted.fallen.reasons
      intStatus := s.statusAfter f.lease (s.lease f.lease).faulted.fallen.reasons } := by
  have record : (countFault f.lease s).lease f.lease = (s.lease f.lease).faulted := by
    rw [lease_of_set s (countFault_leases s f.lease), if_pos rfl]
  have attention := attentionAfter_attentionAfter (congrArg Lease.reasons record) (congrArg State.attention (countFault_eq s f.lease))
    Lease.reasons_eq_zero_of_faulted (Lease.reasons_eq_zero_of_fallen (r := (s.lease f.lease).faulted))
  have status := statusAfter_statusAfter (congrArg Lease.reasons record) (congrArg State.intStatus (countFault_eq s f.lease))
    Lease.reasons_eq_zero_of_faulted (Lease.reasons_eq_zero_of_fallen (r := (s.lease f.lease).faulted))
  rw [endTag_eq, record, attention, status, countFault_eq]
  simp only [Vector.set_set]
  rfl

/-! ### The halt of the engine (R140, R153) -/

/-- The engine after a halt: the command in hand ends in a fault record, and outside BUSY nothing is halted (R153). -/
def Engine.halted (e : Engine) (cause : FaultCause) : Engine :=
  match e.state with
  | .busy step _ _ => { e with
      state := .halted
      fetch := e.complete
      fault := { slot := e.complete, step := step.faultStep, cause := cause } }
  | _ => e

/-- The source a halt of the engine sets: HALT in BUSY, none otherwise. -/
def Engine.haltBits (e : Engine) : BitVec 6 :=
  match e.state with
  | .busy _ _ _ => 0b000100#6
  | _ => 0#6

/-- All that a halt does. -/
theorem haltEngine_eq (cause : FaultCause) (s : State) : haltEngine cause s = { s with
    engine := s.engine.halted cause
    intStatus := s.intStatus ||| s.engine.haltBits } := by
  unfold haltEngine Engine.halted Engine.haltBits
  cases state : s.engine.state with
  | busy step phase stopPending => rfl
  | stopped => exact congrArg (fun i => { s with intStatus := i }) BitVec.or_zero.symm
  | idle => exact congrArg (fun i => { s with intStatus := i }) BitVec.or_zero.symm
  | halted => exact congrArg (fun i => { s with intStatus := i }) BitVec.or_zero.symm

/-- The engine halts when the tag that ended was its own, and stands otherwise. -/
theorem haltIfEngine_eq (f : IssuedTag) (cause : FaultCause) (s : State) : haltIfEngine f cause s = { s with
    engine := if f.origin.isEngine then s.engine.halted cause else s.engine
    intStatus := s.intStatus ||| (if f.origin.isEngine then s.engine.haltBits else 0#6) } := by
  unfold haltIfEngine
  cases f.origin with
  | engine => exact haltEngine_eq cause s
  | client p id => exact congrArg (fun i => { s with intStatus := i }) BitVec.or_zero.symm

/-! ### Answers to clients (R79, R128, R131) -/

/-- What the request under a tag is answered with: a response to the client of a tag that is not muted. -/
def IssuedTag.answer (f : IssuedTag) (status : ClientStatus) (data : List Beat) : List Response :=
  match f.origin with
  | .client p id => if f.muted then [] else [{ port := p, clientId := id, status := status, data := data }]
  | .engine => []

theorem answerTag_eq (f : IssuedTag) (status : ClientStatus) (data : List Beat) (s : State) :
    answerTag f status data s = { s with sent := s.sent ++ f.answer status data } := by
  unfold answerTag IssuedTag.answer
  have silent : s = { s with sent := s.sent ++ [] } := by rw [List.append_nil]
  cases f.origin with
  | engine => exact silent
  | client p id =>
    cases f.muted with
    | false => rfl
    | true => exact silent

/-- All that a fault on a tag does (R130, R133). -/
theorem faultTag_eq (k : TagId) (f : IssuedTag) (status : ClientStatus) (cause : FaultCause) (after : Tag) (s : State) :
    faultTag k f status cause after s = { s with
      leases := s.leases.set f.lease.val (s.lease f.lease).faulted.fallen
      timers := if (s.lease f.lease).state = .draining ∧ (s.lease f.lease).outstanding = 1 then
          s.timers.set f.lease.val (s.timer f.lease).drained
        else s.timers
      tags := s.tags.set k.val after
      engine := if f.origin.isEngine then s.engine.halted cause else s.engine
      attention := s.attentionAfter f.lease (s.lease f.lease).faulted.fallen.reasons
      intStatus := s.statusAfter f.lease (s.lease f.lease).faulted.fallen.reasons |||
        (if f.origin.isEngine then s.engine.haltBits else 0#6)
      sent := s.sent ++ f.answer status [] } := by
  show haltIfEngine f cause (endTag k f after (countFault f.lease (answerTag f status [] s))) = _
  rw [answerTag_eq, endTag_countFault_eq, haltIfEngine_eq]
  rfl

/-- ATTENTION is set when the lease joins the attention set (R178). -/
theorem statusAfter_eq_or (s : State) (l : LeaseId) (after : ReasonSet) : s.statusAfter l after =
    s.intStatus ||| (if (s.lease l).reasons = 0 ∧ after ≠ 0 then 0b000001#6 else 0) := by
  unfold State.statusAfter
  split
  · rfl
  · exact BitVec.or_zero.symm

/-! ### Read data (R128) -/

/-- An answer delivers as many beats as the request's length (R128, entry 4). -/
theorem length_fitBeats (n : Nat) (data : List Beat) (i : Nat) : (fitBeats n data i).length = n := by
  induction n generalizing data i with
  | zero => rfl
  | succ n ih =>
    cases data with
    | nil => exact congrArg Nat.succ (ih [] (i + 1))
    | cons b rest => exact congrArg Nat.succ (ih rest i)

/-- Data of the request's length is delivered as it came. -/
theorem fitBeats_of_length (data : List Beat) (i : Nat) : fitBeats data.length data i = data := by
  induction data with
  | nil => rfl
  | cons b rest ih => exact congrArg (b :: ·) ih

/-- A response OK on a client's tag: the answer with the read data, and the end of the tag (R129). -/
theorem respondOk_client {f : IssuedTag} (client : f.origin.isEngine = false) (k : TagId) (data : List Beat) (s : State) :
    respondOk k f data s = { endTag k f .free s with
      sent := s.sent ++ f.answer .done (readData f data s)
      freeIndex := (spendFree f data s).freeIndex } := by
  have row : respondOk k f data s =
      endTag k f .free (answerTag f .done (readData f data s) (spendFree f data s)) := by
    unfold respondOk
    cases origin : f.origin with
    | engine => simp [origin, Origin.isEngine] at client
    | client p id => rfl
  rw [row, answerTag_eq, spendFree_fixed, endTag_eq, endTag_eq]
  rfl

/-! ### The rows of the memory port (R128, R133, R134) -/

/-- A response timeout that is due is a fault on the tag. -/
theorem tickTag_of_due {s : State} {k : TagId} {f : IssuedTag} (issued : s.tag k = .issued f)
    (due : timeoutDue s.responseTimeout f = true) : tickTag k s = faultTag k f .timeout .timeout .orphaned s := by
  simp only [tickTag, issued, if_pos due]
  rfl

theorem exec_memoryResponse_ok {s : State} {k : TagId} {f : IssuedTag} (up : s.link = .up) (issued : s.tag k = .issued f)
    (data : List Beat) : exec (.memoryResponse k .ok data) s = .next (respondOk k f data s) := by
  show execMemoryResponse k .ok data s = _
  simp only [execMemoryResponse, up, issued]

theorem exec_memoryResponse_error {s : State} {k : TagId} {f : IssuedTag} (up : s.link = .up) (issued : s.tag k = .issued f)
    (data : List Beat) :
    exec (.memoryResponse k .error data) s = .next (faultTag k f .memoryError .memoryError .free s) := by
  show execMemoryResponse k .error data s = _
  simp only [execMemoryResponse, up, issued]
  rfl

theorem exec_memoryResponse_late {s : State} {k : TagId} (up : s.link = .up) (orphaned : s.tag k = .orphaned)
    (status : MemoryStatus) (data : List Beat) : exec (.memoryResponse k status data) s = .next (s.setTag k .free) := by
  show execMemoryResponse k status data s = _
  simp only [execMemoryResponse, up, orphaned]

theorem exec_memoryResponse_stray {s : State} {k : TagId} (stray : s.link = .down ∨ s.tag k = .free) (status : MemoryStatus)
    (data : List Beat) : exec (.memoryResponse k status data) s = .next (setSource .stray s) := by
  show execMemoryResponse k status data s = _
  cases link : s.link with
  | down =>
    simp only [execMemoryResponse, link]
    rfl
  | up =>
    have free : s.tag k = .free := stray.resolve_left (by simp [link])
    simp only [execMemoryResponse, link, free]
    rfl

end Sys2Proof.Machine

open Sys2Proof Sys2Proof.Machine

/-- Settles O20: the timeout is due, and what it does is `faultTag_eq`; the halt by the origin of the tag and the engine's state. -/
theorem responseTimeoutOrphansTag : Obligations.ResponseTimeoutOrphansTag := by
  unfold Obligations.ResponseTimeoutOrphansTag
  intro s k f issued on reached a after joins halted
  have due : timeoutDue s.responseTimeout f = true := (timeoutDue_iff _ _).mpr ⟨on, reached⟩
  rw [exec_responseTimeout_of_due issued due, tickTag_of_due issued due, faultTag_eq, statusAfter_eq_or]
  cases origin : f.origin with
  | client p id =>
    simp only [IssuedTag.answer, origin]
    rfl
  | engine =>
    simp only [IssuedTag.answer, origin, Engine.halted, Engine.haltBits]
    cases s.engine.state with
    | busy step phase stopPending => cases step <;> rfl
    | stopped => rfl
    | idle => rfl
    | halted => rfl

/-- Settles O29: an OK response by `respondOk_client` and the beats of `readData`, an ERROR response by `faultTag_eq`. -/
theorem clientTagAnswered : Obligations.ClientTagAnswered := by
  unfold Obligations.ClientTagAnswered
  intro s k f p id status data up issued origin
  have client : f.origin.isEngine = false := by rw [origin]; rfl
  have answer : ∀ (st : ClientStatus) (beats : List Beat), f.answer st beats =
      if f.muted then [] else [{ port := p, clientId := id, status := st, data := beats }] := fun st beats => by
    simp only [IssuedTag.answer, origin]
  cases status with
  | ok =>
    refine ⟨_, exec_memoryResponse_ok up issued data, ?_⟩
    rw [respondOk_client client]
    refine ⟨?_, fun muted => ?_, fun _ error => by simp at error, fun unmuted _ => ⟨readData f data s, ?_, fun write => ?_,
      fun read => ?_⟩⟩
    · rw [endTag_eq]
      rfl
    · show s.sent ++ f.answer .done _ = s.sent
      rw [answer, muted]
      exact List.append_nil _
    · show s.sent ++ f.answer .done _ = _
      rw [answer, unmuted]
      rfl
    · simp only [readData, write]
    · simp only [readData, read]
      exact ⟨length_fitBeats _ _ _, fun whole => whole ▸ fitBeats_of_length data _⟩
  | error =>
    refine ⟨_, exec_memoryResponse_error up issued data, ?_⟩
    rw [faultTag_eq]
    refine ⟨?_, fun muted => ?_, fun unmuted _ => ?_, fun _ ok => by simp at ok⟩
    · simp only [client, Bool.false_eq_true, if_false, BitVec.or_zero]
      rfl
    · show s.sent ++ f.answer .memoryError [] = s.sent
      rw [answer, muted]
      exact List.append_nil _
    · show s.sent ++ f.answer .memoryError [] = _
      rw [answer, unmuted]
      rfl

/-- Settles O30: a late response ends in the free tag, and a stray one in STRAY. -/
theorem lateAndStrayResponses : Obligations.LateAndStrayResponses := by
  unfold Obligations.LateAndStrayResponses
  intro s k status data
  refine ⟨fun up orphaned => ?_, fun _ free => ?_, fun down => ?_⟩
  · exact exec_memoryResponse_late up orphaned status data
  · exact exec_memoryResponse_stray (.inr free) status data
  · exact exec_memoryResponse_stray (.inl down) status data

end

section
/-!
PROOF. ISSUE: the arbiter's choice of queue and tag, and what the issue does (O28).
-/

namespace Sys2Proof.Machine

/-- The engine when an entry of an origin is issued: the engine's own entry moves its PLACED request to ISSUED (R146). -/
theorem Engine.noteIssue_eq (x : Engine) (o : Origin) : x.noteIssue o = { x with state :=
    match o, x.state with
    | .engine, .busy step .placed stopPending => .busy step .issued stopPending
    | _, y => y } := by
  obtain ⟨state, base, size, submit, fetch, complete, fault, mode⟩ := x
  cases o with
  | client p id => rfl
  | engine =>
    cases state with
    | busy step phase stopPending => cases phase <;> rfl
    | stopped | idle | halted => rfl

/-! ### The arbiter (R125, R126) -/

/-- The arbiter takes from a queue that holds an entry: from G while S is empty or the G-run count is below 8, from S otherwise. -/
theorem chooseQueue_of_cases {s : State} {q : QueueName} {e : DispatchEntry} {rest : List DispatchEntry}
    (choice : q = .g ↔ s.gQueue ≠ [] ∧ (s.sQueue = [] ∨ s.gRun < 8)) (head : s.queue q = e :: rest) :
    chooseQueue s = some q := by
  unfold chooseQueue
  cases q with
  | g =>
    obtain ⟨-, turn⟩ := choice.mp rfl
    have g : s.gQueue = e :: rest := head
    rw [g]
    cases sq : s.sQueue with
    | nil => rfl
    | cons e' rest' => exact if_pos (turn.resolve_left (by simp [sq]))
  | s =>
    have not_g : ¬ (s.gQueue ≠ [] ∧ (s.sQueue = [] ∨ s.gRun < 8)) := fun h => by simpa using choice.mpr h
    have sq : s.sQueue = e :: rest := head
    rw [sq]
    cases g : s.gQueue with
    | nil => rfl
    | cons e' rest' => exact if_neg fun below => not_g ⟨by simp [g], .inr below⟩

theorem chooseQueue_of_empty {s : State} (g : s.gQueue = []) (sq : s.sQueue = []) : chooseQueue s = none := by
  unfold chooseQueue
  rw [g, sq]

/-- The tag of an issue is the FREE one with the lowest number. -/
theorem lowestFreeTag_of_lowest {s : State} {k : TagId} (free : s.tag k = .free)
    (lowest : ∀ j : TagId, j.val < k.val → s.tag j ≠ .free) : lowestFreeTag s = some k := by
  unfold lowestFreeTag
  rw [List.find?_eq_some_iff_getElem]
  refine ⟨decide_eq_true free, k.val, by simp, by simp, fun j below => ?_⟩
  simpa using lowest ⟨j, below.trans k.isLt⟩ below

theorem lowestFreeTag_of_none_free {s : State} (taken : ∀ k : TagId, s.tag k ≠ .free) : lowestFreeTag s = none := by
  unfold lowestFreeTag
  rw [List.find?_eq_none]
  exact fun k _ => by simpa using taken k

/-- With every condition met, ISSUE takes the head of the chosen queue under the lowest FREE tag. -/
theorem exec_issue_of_choice {s : State} {k : TagId} {q : QueueName} {e : DispatchEntry} {rest : List DispatchEntry}
    (up : s.link = .up) (tag : lowestFreeTag s = some k) (queue : chooseQueue s = some q) (head : s.queue q = e :: rest) :
    exec .issue s = .next (issueEntry q e k s) := by
  have next : nextIssue s = some (q, e, k) := by
    unfold nextIssue
    simp only [up, tag, queue, head]
  show execIssue s = _
  unfold execIssue
  rw [next]

/-- With a condition missing, nothing is issued (R125). -/
theorem exec_issue_of_none {s : State} (missing : s.link = .down ∨ lowestFreeTag s = none ∨ chooseQueue s = none) :
    exec .issue s = .next s := by
  have none : nextIssue s = none := by
    unfold nextIssue
    split
    · next up tag queue =>
      rcases missing with down | no_tag | no_entry
      · simp [down] at up
      · simp [no_tag] at tag
      · simp [no_entry] at queue
    · rfl
  show execIssue s = _
  unfold execIssue
  rw [none]

/-- In LINK_DOWN nothing is issued (R127). -/
theorem exec_issue_of_down {s : State} (down : s.link = .down) : exec .issue s = .next s := exec_issue_of_none (.inl down)

end Sys2Proof.Machine

open Sys2Proof Sys2Proof.Machine

/-- Settles O28: the choice by the arbiter's cases and the lowest FREE tag, then the issue from either queue (`issueEntry_g`,
`issueEntry_s`); with a condition missing there is no choice. -/
theorem issueTakesArbitersChoice : Obligations.IssueTakesArbitersChoice := by
  unfold Obligations.IssueTakesArbitersChoice
  refine ⟨?_, fun s missing => ?_⟩
  · intro s k q e rest up free lowest choice head out
    rw [exec_issue_of_choice up (lowestFreeTag_of_lowest free lowest) (chooseQueue_of_cases choice head) head]
    have engine : s.engine.noteIssue e.origin = out.engine := Engine.noteIssue_eq s.engine e.origin
    have tail : (s.queue q).tail = rest := by rw [head]; rfl
    cases q with
    | g =>
      have tail : s.gQueue.tail = rest := tail
      rw [issueEntry_g, issueG, engine, tail]
      rfl
    | s =>
      have tail : s.sQueue.tail = rest := tail
      rw [issueEntry_s, issueS, engine, tail]
      rfl
  · refine exec_issue_of_none (missing.imp id (Or.imp lowestFreeTag_of_none_free fun empty => ?_))
    exact chooseQueue_of_empty empty.1 empty.2

end

section
/-!
PROOF. The memory port reset from either side: the ends of the tags as one change of the state (O7), and what moves the link (O33).
-/

namespace Sys2Proof.Machine

/-! ### What one tag's end by a reset does (R137) -/

/-- The leases whose outstanding a tag counts in: its own when it is ISSUED, none otherwise. -/
def Tag.leases : Tag → List LeaseId
  | .issued f => [f.lease]
  | .free => []
  | .orphaned => []

/-- What a reset answers for a tag: ABORTED to the client of an ISSUED tag that is not muted (R137 step 1). -/
def Tag.abortAnswers : Tag → List Response
  | .issued f => f.answer .aborted []
  | .free => []
  | .orphaned => []

/-- The engine after ends of tags of which one was its own, or none (R137 step 1). -/
def Engine.aborted (e : Engine) (own : Bool) : Engine := if own then e.halted .memoryAbort else e

/-- The source those ends set: HALT when they halt the engine. -/
def Engine.abortBits (e : Engine) (own : Bool) : BitVec 6 := if own then e.haltBits else 0#6

/-- Falls of outstanding on the leases of a list, one after another. -/
def fallEach (leases : List LeaseId) (s : State) : State := leases.foldl (fun s l => fallOutstanding l s) s

/-- Tags, engine and responses replaced, and sources set: what the ends of tags do beside the falls of outstanding. -/
def State.withEnds (s : State) (tags : Vector Tag 32) (engine : Engine) (bits : BitVec 6) (sent : List Response) : State :=
  { s with tags := tags, engine := engine, intStatus := s.intStatus ||| bits, sent := sent }

/-- A fall of outstanding reads and changes none of what the ends of tags replace. -/
theorem fallOutstanding_withEnds (l : LeaseId) (s : State) (tags : Vector Tag 32) (engine : Engine) (bits : BitVec 6)
    (sent : List Response) :
    fallOutstanding l (s.withEnds tags engine bits sent) = (fallOutstanding l s).withEnds tags engine bits sent := by
  have record : (s.withEnds tags engine bits sent).lease l = s.lease l := rfl
  have set_bits : (s.withEnds tags engine bits sent).intStatus = s.intStatus ||| bits := rfl
  have status : (s.withEnds tags engine bits sent).statusAfter l (s.lease l).fallen.reasons =
      s.statusAfter l (s.lease l).fallen.reasons ||| bits := by
    rw [statusAfter_eq_or, statusAfter_eq_or, record, set_bits, BitVec.or_assoc, BitVec.or_assoc, BitVec.or_comm bits]
  rw [fallOutstanding_eq, fallOutstanding_eq, record, status]
  rfl

theorem fallEach_withEnds (leases : List LeaseId) (s : State) (tags : Vector Tag 32) (engine : Engine) (bits : BitVec 6)
    (sent : List Response) :
    fallEach leases (s.withEnds tags engine bits sent) = (fallEach leases s).withEnds tags engine bits sent := by
  induction leases generalizing s with
  | nil => rfl
  | cons l rest ih =>
    show fallEach rest (fallOutstanding l (s.withEnds tags engine bits sent)) = _
    rw [fallOutstanding_withEnds, ih]
    rfl

/-- Where no tag ends, nothing is replaced. -/
theorem withEnds_none (s : State) : s.withEnds s.tags s.engine 0#6 (s.sent ++ []) = s := by
  unfold State.withEnds
  rw [BitVec.or_zero, List.append_nil]

theorem withEnds_withEnds (s : State) (tags tags' : Vector Tag 32) (engine engine' : Engine) (bits bits' : BitVec 6)
    (sent sent' : List Response) :
    (s.withEnds tags engine bits sent).withEnds tags' engine' bits' sent' = s.withEnds tags' engine' (bits ||| bits') sent' := by
  unfold State.withEnds
  rw [BitVec.or_assoc]

/-- One tag's end by a reset, whatever stands under the tag. -/
theorem abortTag_eq (k : TagId) (s : State) : abortTag k s = (fallEach (s.tag k).leases s).withEnds (s.tags.set k.val .free)
    (s.engine.aborted (s.tag k).isEngine) (s.engine.abortBits (s.tag k).isEngine) (s.sent ++ (s.tag k).abortAnswers) := by
  unfold abortTag
  cases tag : s.tag k with
  | issued f =>
    show haltIfEngine f .memoryAbort (endTag k f .free (answerTag f .aborted [] s)) =
      (fallOutstanding f.lease s).withEnds _ _ _ _
    rw [answerTag_eq, endTag_eq, haltIfEngine_eq, fallOutstanding_eq]
    rfl
  | free =>
    have same : s.tags.set k.val .free = s.tags := by
      rw [← tag]
      exact Vector.set_getElem_self _
    rw [same]
    exact (withEnds_none s).symm
  | orphaned => exact (withEnds_none (s.setTag k .free)).symm

/-! ### The ends of the tags one after another (R137 steps 1 to 3) -/

/-- A second halt finds no command in hand. -/
theorem Engine.halted_halted (e : Engine) (cause cause' : FaultCause) : (e.halted cause).halted cause' = e.halted cause := by
  obtain ⟨state, base, size, submit, fetch, complete, fault, mode⟩ := e
  cases state <;> rfl

theorem Engine.haltBits_halted (e : Engine) (cause : FaultCause) : (e.halted cause).haltBits = 0#6 := by
  obtain ⟨state, base, size, submit, fetch, complete, fault, mode⟩ := e
  cases state <;> rfl

theorem Engine.aborted_aborted (e : Engine) (own own' : Bool) : (e.aborted own).aborted own' = e.aborted (own || own') := by
  cases own with
  | false => rfl
  | true =>
    cases own' with
    | false => rfl
    | true => exact e.halted_halted _ _

theorem Engine.abortBits_aborted (e : Engine) (own own' : Bool) :
    e.abortBits own ||| (e.aborted own).abortBits own' = e.abortBits (own || own') := by
  cases own with
  | false => exact BitVec.zero_or
  | true =>
    cases own' with
    | false => exact BitVec.or_zero
    | true => exact (congrArg (e.haltBits ||| ·) (e.haltBits_halted _)).trans BitVec.or_zero

theorem fallEach_append (first second : List LeaseId) (s : State) :
    fallEach (first ++ second) s = fallEach second (fallEach first s) := List.foldl_append

/-- The ends of distinct tags by a reset: the falls of outstanding for those that are ISSUED, the engine halted once when one is its
own, and the answers in the order of the list. -/
theorem foldl_abortTag_eq (ks : List TagId) (distinct : ks.Nodup) (s : State) :
    ks.foldl (fun s k => abortTag k s) s =
      (fallEach (ks.flatMap fun k => (s.tag k).leases) s).withEnds (ks.foldl (fun v k => v.set k.val .free) s.tags)
        (s.engine.aborted (ks.any fun k => (s.tag k).isEngine)) (s.engine.abortBits (ks.any fun k => (s.tag k).isEngine))
        (s.sent ++ ks.flatMap fun k => (s.tag k).abortAnswers) := by
  induction ks using List.reverseRecOn with
  | nil => exact (withEnds_none s).symm
  | append_singleton ks k ih =>
    obtain ⟨distinct, -, apart⟩ := List.nodup_append.mp distinct
    have new : k ∉ ks := fun old => apart k old k (List.mem_singleton_self k) rfl
    have untouched : (ks.foldl (fun s k => abortTag k s) s).tag k = s.tag k := by rw [tag_foldl_abortTag, if_neg new]
    simp only [List.foldl_append, List.flatMap_append, List.any_append, List.foldl_cons, List.foldl_nil, List.flatMap_singleton,
      List.any_cons, List.any_nil, Bool.or_false, fallEach_append]
    rw [abortTag_eq, untouched, ih distinct, fallEach_withEnds, withEnds_withEnds]
    simp only [State.withEnds, Engine.aborted_aborted, Engine.abortBits_aborted, List.append_assoc]

/-! ### The whole tag table (R137) -/

/-- Falls for a list of leases, one on each. -/
theorem falls_fallEach (leases : List LeaseId) (s : State) : Falls (fun l => leases.count l) s (fallEach leases s) := by
  induction leases generalizing s with
  | nil => exact Falls.refl s
  | cons j rest ih =>
    simp only [List.count_cons, beq_iff_eq]
    exact (ih (fallOutstanding j s)).after_fall

/-- The leases of the ISSUED tags, in tag number order. -/
def State.issuedLeases (s : State) : List LeaseId := (List.finRange 32).flatMap fun k => (s.tag k).leases

/-- One of the ISSUED tags is the engine's. -/
def State.engineTagged (s : State) : Bool := (List.finRange 32).any fun k => (s.tag k).isEngine

theorem Tag.count_leases (v : Tag) (l : LeaseId) : v.leases.count l = if v.names l then 1 else 0 := by
  cases v with
  | issued f => simp [Tag.leases, Tag.names, List.count_singleton]
  | free => rfl
  | orphaned => rfl

/-- A lease stands among them once for each ISSUED tag that names it. -/
theorem count_issuedLeases (s : State) (l : LeaseId) : s.issuedLeases.count l = s.tags.toList.countP (Tag.names l) := by
  have each : ∀ tags : List Tag, (tags.flatMap Tag.leases).count l = tags.countP (Tag.names l) := by
    intro tags
    induction tags with
    | nil => rfl
    | cons v rest ih => rw [List.flatMap_cons, List.count_append, ih, List.countP_cons, Tag.count_leases, Nat.add_comm]
  rw [← each, toList_eq_map, List.flatMap_map]
  rfl

theorem engineTagged_iff (s : State) : s.engineTagged = true ↔ 0 < s.tags.toList.countP Tag.isEngine := by
  rw [List.countP_pos_iff, ← List.any_eq_true, toList_eq_map, List.any_map]
  rfl

/-- The answers of the reset are ABORTED in tag number order (R137 step 1). -/
theorem abortResponses_eq (s : State) : abortResponses s = (List.finRange 32).flatMap fun k => (s.tag k).abortAnswers := by
  unfold abortResponses
  rw [List.filterMap_eq_flatMap_toList]
  refine congrArg (List.flatMap · _) (funext fun k => ?_)
  cases s.tag k with
  | free => rfl
  | orphaned => rfl
  | issued f =>
    simp only [Tag.abortAnswers, IssuedTag.answer]
    cases f.origin with
    | engine => rfl
    | client p id => cases f.muted <;> rfl

/-- All that a memory port reset does. -/
theorem resetMemoryPort_eq (s : State) : resetMemoryPort s =
    { fallEach s.issuedLeases s with
      tags := (List.finRange 32).foldl (fun v k => v.set k.val .free) s.tags
      link := .down
      engine := s.engine.aborted s.engineTagged
      intStatus := (fallEach s.issuedLeases s).intStatus ||| s.engine.abortBits s.engineTagged ||| Source.linkReset.mask
      sent := s.sent ++ abortResponses s } := by
  unfold resetMemoryPort State.issuedLeases State.engineTagged
  rw [abortResponses_eq, foldl_abortTag_eq _ (List.nodup_finRange 32)]
  generalize List.finRange 32 = ks
  rfl

/-- A memory port reset touches the tables named here and no other. -/
theorem resetMemoryPort_fixed (s : State) : resetMemoryPort s = { s with
    leases := (resetMemoryPort s).leases
    timers := (resetMemoryPort s).timers
    tags := (resetMemoryPort s).tags
    link := .down
    engine := (resetMemoryPort s).engine
    attention := (resetMemoryPort s).attention
    intStatus := (resetMemoryPort s).intStatus
    sent := s.sent ++ abortResponses s } := by
  have fixed := (falls_fallEach s.issuedLeases s).fixed
  rw [resetMemoryPort_eq]
  generalize fallEach s.issuedLeases s = u at fixed ⊢
  rw [fixed]

theorem tag_resetMemoryPort (s : State) (k : TagId) : (resetMemoryPort s).tag k = .free := by
  have ended := tag_foldl_abortTag (List.finRange 32) s k
  rw [if_pos (List.mem_finRange k)] at ended
  unfold resetMemoryPort
  generalize (List.finRange 32).foldl (fun s t => abortTag t s) s = u at ended ⊢
  exact ended

theorem leases_resetMemoryPort (s : State) : (resetMemoryPort s).leases = (fallEach s.issuedLeases s).leases := by
  rw [resetMemoryPort_eq]

theorem timers_resetMemoryPort (s : State) : (resetMemoryPort s).timers = (fallEach s.issuedLeases s).timers := by
  rw [resetMemoryPort_eq]

theorem lease_resetMemoryPort (s : State) (l : LeaseId) :
    (resetMemoryPort s).lease l = (s.lease l).fallenBy (s.tags.toList.countP (Tag.names l)) := by
  rw [lease_congr _ (leases_resetMemoryPort s), (falls_fallEach s.issuedLeases s).lease, count_issuedLeases]

theorem timer_resetMemoryPort (s : State) (l : LeaseId) :
    (resetMemoryPort s).timer l = (s.timer l).afterFalls (s.lease l) (s.tags.toList.countP (Tag.names l)) := by
  rw [timer_congr _ (timers_resetMemoryPort s), (falls_fallEach s.issuedLeases s).timer, count_issuedLeases]

/-- A lease joins the attention set by the reset as it does by the falls of outstanding. -/
theorem joins_resetMemoryPort_iff (s : State) (l : LeaseId) :
    s.Joins (resetMemoryPort s) l ↔ s.Joins (fallEach s.issuedLeases s) l := by
  unfold State.Joins
  rw [lease_congr _ (leases_resetMemoryPort s)]

theorem attention_resetMemoryPort (s : State) (l : LeaseId) : (resetMemoryPort s).attention.getLsbD l.val = true ↔
    s.attention.getLsbD l.val = true ∨ s.Joins (resetMemoryPort s) l := by
  have same : (resetMemoryPort s).attention = (fallEach s.issuedLeases s).attention := by rw [resetMemoryPort_eq]
  rw [joins_resetMemoryPort_iff, same]
  exact (falls_fallEach s.issuedLeases s).attention l

/-- The reset sets LINK_RESET, HALT when it halts the engine, and ATTENTION when a lease joins the attention set, whichever way that is
decided. -/
theorem intStatus_resetMemoryPort (s : State)
    [Decidable (∃ l : LeaseId, (s.lease l).reasons = 0 ∧ ((resetMemoryPort s).lease l).reasons ≠ 0)] :
    (resetMemoryPort s).intStatus = s.intStatus ||| 0b100000#6 ||| s.engine.abortBits s.engineTagged |||
      (if ∃ l : LeaseId, (s.lease l).reasons = 0 ∧ ((resetMemoryPort s).lease l).reasons ≠ 0 then 0b000001#6 else 0#6) := by
  have falls := falls_fallEach s.issuedLeases s
  have same := exists_congr (joins_resetMemoryPort_iff s)
  have sources : (resetMemoryPort s).intStatus =
      (fallEach s.issuedLeases s).intStatus ||| s.engine.abortBits s.engineTagged ||| 0b100000#6 := by
    rw [resetMemoryPort_eq]
    rfl
  have attention : (fallEach s.issuedLeases s).intStatus =
      s.intStatus |||
        (if ∃ l : LeaseId, (s.lease l).reasons = 0 ∧ ((resetMemoryPort s).lease l).reasons ≠ 0 then 0b000001#6 else 0#6) := by
    split_ifs with joins
    · exact falls.joined (same.mp joins)
    · exact (falls.quiet fun some_joins => joins (same.mpr some_joins)).trans BitVec.or_zero.symm
  rw [sources, attention]
  ac_rfl

theorem engine_resetMemoryPort (s : State) : (resetMemoryPort s).engine = s.engine.aborted s.engineTagged := by
  rw [resetMemoryPort_eq]

theorem Engine.aborted_engineTagged (s : State) : s.engine.aborted s.engineTagged =
    if 0 < s.tags.toList.countP Tag.isEngine then s.engine.halted .memoryAbort else s.engine :=
  if_congr (engineTagged_iff s) rfl rfl

theorem Engine.abortBits_engineTagged (s : State) : s.engine.abortBits s.engineTagged =
    if 0 < s.tags.toList.countP Tag.isEngine then s.engine.haltBits else 0#6 :=
  if_congr (engineTagged_iff s) rfl rfl

/-! ### The link (R127) -/

/-- A memory port reset from either side takes the link down and leaves the ready level (R127, R137). -/
theorem link_of_memoryReset {s t : State} (row : exec .memoryPortReset s = .next t ∨ exec .memorySideReset s = .next t) :
    t.link = .down ∧ t.readyLevel = s.readyLevel := by
  have kept : (resetMemoryPort s).link = .down ∧ (resetMemoryPort s).readyLevel = s.readyLevel := by
    rw [resetMemoryPort_fixed]
    exact ⟨rfl, rfl⟩
  have reached : signalMemoryReset s = t ∨ resetMemoryPort s = t := row.imp Host.Outcome.next.inj Host.Outcome.next.inj
  unfold signalMemoryReset at reached
  generalize resetMemoryPort s = u at kept reached
  rcases reached with rfl | rfl
  · exact kept
  · exact kept

theorem link_softReset (s : State) : (softReset s).link = s.link := rfl

theorem link_resetPort (p : PortId) (s : State) : (resetPort p s).link = s.link := by
  rw [resetPort_eq, setPort_link, handTriggerIf_link, resetClaim_fixed]

theorem link_resetPorts (mask : Byte) (s : State) : (resetPorts mask s).link = s.link := by
  unfold resetPorts
  induction List.finRange 8 generalizing s with
  | nil => rfl
  | cons p rest ih =>
    rw [List.foldl_cons, ih]
    split
    · exact link_resetPort p s
    · rfl

theorem exec_readySignal_of_low {s : State} (low : s.readyLevel = false) :
    exec .readySignal s = .next { s with readyLevel := true, link := .up } := if_neg (by simp [low])

theorem exec_readySignal_of_high {s : State} (high : s.readyLevel = true) : exec .readySignal s = .next s := if_pos high

end Sys2Proof.Machine

open Sys2Proof Sys2Proof.Machine

/-- Settles O7: the ends of the tags are falls of outstanding, one halt and the answers in order (`resetMemoryPort_eq`); each table is
read off that. -/
theorem memoryPortResetEndsEveryTag : Obligations.MemoryPortResetEndsEveryTag := by
  unfold Obligations.MemoryPortResetEndsEveryTag
  intro s
  refine ⟨resetMemoryPort s, rfl, rfl, ?_, tag_resetMemoryPort s, fun l => ?_, ?_⟩
  · refine (resetMemoryPort_fixed s).trans ?_
    rw [intStatus_resetMemoryPort, Engine.abortBits_engineTagged, Engine.haltBits]
    generalize resetMemoryPort s = t
    rfl
  · refine ⟨lease_resetMemoryPort s l, timer_resetMemoryPort s l, ?_⟩
    rw [Bool.eq_iff_iff, attention_resetMemoryPort, Bool.or_eq_true, decide_eq_true_iff]
    rfl
  · exact (engine_resetMemoryPort s).trans (Engine.aborted_engineTagged s)

/-- Settles O33: the link goes up with the ready level and down with a memory port reset, and nothing else of these moves it. -/
theorem readyLevelAndLinkState : Obligations.ReadyLevelAndLinkState := by
  unfold Obligations.ReadyLevelAndLinkState
  refine ⟨rfl, fun s => ⟨exec_readySignal_of_low, exec_readySignal_of_high, rfl, fun t reset => ?_, fun t reset => ?_,
    exec_issue_of_down, ?_⟩⟩
  · exact link_of_memoryReset reset
  · rcases reset with row | ⟨p, row⟩ | ⟨mask, row⟩
    · have reached : softReset s = t := Host.Outcome.next.inj row
      exact reached ▸ link_softReset s
    · have reached : resetPort p s = t := Host.Outcome.next.inj row
      exact reached ▸ link_resetPort p s
    · have reached : resetPorts mask s = t := Host.Outcome.next.inj row
      exact reached ▸ link_resetPorts mask s
  · rfl

end

section
/-!
PROOF. The law of the ring, its indices and the engine state, kept by every step (O56).
-/

open Sys2Proof Sys2Proof.Machine

/-- Settles O56: every change a step is made of hands on an engine that keeps the law of the ring by itself
(`engineLaw_change`). -/
theorem engineLawIsKept : Obligations.EngineLawIsKept := by
  unfold Obligations.EngineLawIsKept
  exact fun s t law stepped => (step_changes stepped).keep engineLaw_change law

end

section
/-!
PROOF. The window writes of the command engine by engine state: its controls (O10), SUBMIT_INDEX (O11), RING_BASE and RING_SIZE
(O12).
-/

namespace Sys2Proof.Machine

/-! ### The controls (R143, R144, Table 9-3) -/

/-- A command is pending exactly when the submit index has left the fetch index; for that the submit index need not be a slot of the
ring (R142). -/
theorem Engine.hasPending_iff_of_slot {e : Engine} (slot : e.fetch < e.ringSize) : e.hasPending = true ↔ ¬ e.submit = e.fetch := by
  unfold Engine.hasPending Engine.pendingCount
  rw [decide_eq_true_iff]
  split <;> omega

/-- An engine with no command in hand goes IDLE when the submit index stands at the fetch index, and to FETCH otherwise (R143). -/
theorem Engine.begin_eq {e : Engine} (slot : e.fetch < e.ringSize) :
    (if e.hasPending then beginFetch false else EngineState.idle) =
      if e.submit = e.fetch then .idle else .busy .fetch .presented false := by
  simp only [Engine.hasPending_iff_of_slot slot, ite_not]
  rfl

theorem startEngine_of_stopped {s : State} (stopped : s.engine.state = .stopped) (slot : s.engine.fetch < s.engine.ringSize) :
    startEngine s =
      s.setEngineState (if s.engine.submit = s.engine.fetch then .idle else .busy .fetch .presented false) := by
  simp only [startEngine, stopped, Engine.begin_eq slot]

theorem startEngine_of_not_stopped {s : State} (going : s.engine.state ≠ .stopped) : startEngine s = s := by
  unfold startEngine
  split
  · exact absurd ‹_› going
  · rfl
  · rfl
  · rfl

theorem stopEngine_of_idle {s : State} (idle : s.engine.state = .idle) : stopEngine s = s.setEngineState .stopped := by
  simp only [stopEngine, idle]

theorem stopEngine_of_busy {s : State} {step : EngineStep} {phase : RequestPhase} {stopPending : Bool}
    (busy : s.engine.state = .busy step phase stopPending) : stopEngine s = s.setEngineState (.busy step phase true) := by
  simp only [stopEngine, busy]

theorem stopEngine_of_at_rest {s : State} (rest : s.engine.state = .stopped ∨ s.engine.state = .halted) : stopEngine s = s := by
  rcases rest with stopped | halted
  · simp only [stopEngine, stopped]
  · simp only [stopEngine, halted]

theorem clearEngineHalt_of_halted {s : State} (halted : s.engine.state = .halted) :
    clearEngineHalt s = s.setEngineState .stopped := by
  simp only [clearEngineHalt, halted]

theorem clearEngineHalt_of_not_halted {s : State} (going : s.engine.state ≠ .halted) : clearEngineHalt s = s := by
  unfold clearEngineHalt
  split
  · rfl
  · rfl
  · rfl
  · exact absurd ‹_› going

/-! ### SUBMIT_INDEX (R142) -/

theorem writeSubmit_of_ignored {s : State} {v : Nat} (ignored : submitIgnored s.engine v = true) : writeSubmit v s = s :=
  if_pos ignored

/-- A value at or above the ring size is ignored in every engine state. -/
theorem submitIgnored_of_outside {e : Engine} {v : Nat} (outside : e.ringSize ≤ v) : submitIgnored e v = true := by
  unfold submitIgnored
  rw [decide_eq_true outside, Bool.true_or]

/-- Of the slots of the ring, the complete index alone is ignored, and in BUSY alone. -/
theorem submitIgnored_of_slot {e : Engine} {v : Nat} (inside : v < e.ringSize) : submitIgnored e v = true ↔
    v = e.complete ∧ ∃ step phase stopPending, e.state = .busy step phase stopPending := by
  unfold submitIgnored
  rw [decide_eq_false (Nat.not_le.mpr inside), Bool.false_or]
  cases e.state with
  | busy step phase stopPending => simp
  | stopped => simp
  | idle => simp
  | halted => simp

/-- A value that is taken replaces the submit index, and in IDLE the engine begins with what is then pending. -/
theorem writeSubmit_of_idle {s : State} {v : Nat} (taken : ¬ submitIgnored s.engine v = true) (idle : s.engine.state = .idle) :
    writeSubmit v s = { s with engine := { s.engine with
      submit := v
      state := if { s.engine with submit := v }.hasPending then beginFetch false else .idle } } := by
  simp only [writeSubmit, if_neg taken, idle]

/-- Outside IDLE a value that is taken replaces the submit index alone. -/
theorem writeSubmit_of_not_idle {s : State} {v : Nat} (taken : ¬ submitIgnored s.engine v = true)
    (going : s.engine.state ≠ .idle) : writeSubmit v s = { s with engine := { s.engine with submit := v } } := by
  unfold writeSubmit
  rw [if_neg taken]
  dsimp only
  split
  · exact absurd ‹_› going
  · rfl
  · rfl
  · rfl

/-! ### RING_BASE and RING_SIZE (R141) -/

/-- A mask that is all ones over a field keeps the field. -/
theorem extract_and_of_ones {w first count : Nat} {x mask : BitVec w} (ones : mask.extractLsb' first count = BitVec.allOnes count) :
    (x &&& mask).extractLsb' first count = x.extractLsb' first count := by
  rw [BitVec.extractLsb'_and, ones, BitVec.and_allOnes]

/-- A mask that is zero over a field clears the field. -/
theorem extract_and_of_zeros {w first count : Nat} {x mask : BitVec w} (zeros : mask.extractLsb' first count = 0#count) :
    (x &&& mask).extractLsb' first count = 0#count := by
  rw [BitVec.extractLsb'_and, zeros, BitVec.and_zero]

/-- RING_BASE_0 replaces bits 31:12; bits 11:0 are zero and bits 39:32 stand. -/
theorem ringBaseWith_zero (base : Address) (v : Word) :
    (ringBaseWith base 0 v).extractLsb' 0 12 = 0 ∧ (ringBaseWith base 0 v).extractLsb' 12 20 = v.extractLsb' 12 20 ∧
      (ringBaseWith base 0 v).extractLsb' 32 8 = base.extractLsb' 32 8 := by
  have masks : ringBaseWith base 0 v = (base &&& 0xFF00000000#40) ||| ((v &&& 0xFFFFF000#32).zeroExtend 40) := rfl
  have beyond : ((v &&& 0xFFFFF000#32).setWidth 40).extractLsb' 32 8 = 0#8 :=
    (BitVec.extractLsb'_setWidth_of_le (by decide)).trans (by ext i hi; simp)
  simp only [masks, BitVec.extractLsb'_or, BitVec.zeroExtend_eq_setWidth]
  refine ⟨?_, ?_, ?_⟩
  · rw [extract_and_of_zeros rfl, BitVec.extractLsb'_setWidth_of_le (by decide), extract_and_of_zeros rfl]
    rfl
  · rw [extract_and_of_zeros rfl, BitVec.extractLsb'_setWidth_of_le (by decide), extract_and_of_ones rfl, BitVec.zero_or]
  · rw [extract_and_of_ones rfl, beyond, BitVec.or_zero]

/-- RING_BASE_1 replaces bits 39:32, and bits 31:0 stand. -/
theorem ringBaseWith_one (base : Address) (v : Word) :
    (ringBaseWith base 1 v).extractLsb' 0 32 = base.extractLsb' 0 32 ∧
      (ringBaseWith base 1 v).extractLsb' 32 8 = v.extractLsb' 0 8 := by
  have masks : ringBaseWith base 1 v = (base &&& 0x00FFFFFFFF#40) ||| ((v.zeroExtend 40 &&& 0xFF#40) <<< 32) := rfl
  have low : ∀ x : Address, (x <<< 32).extractLsb' 0 32 = 0#32 := fun x => by
    ext i hi
    simp [hi]
  have high : ∀ x : Address, (x <<< 32).extractLsb' 32 8 = x.extractLsb' 0 8 := fun x => by
    ext i hi
    simp
    omega
  simp only [masks, BitVec.extractLsb'_or, BitVec.zeroExtend_eq_setWidth]
  refine ⟨?_, ?_⟩
  · rw [extract_and_of_ones rfl, low, BitVec.or_zero]
  · rw [extract_and_of_zeros rfl, high, extract_and_of_ones rfl, BitVec.extractLsb'_setWidth_of_le (by decide), BitVec.zero_or]

theorem validRingSize_iff (v : Word) :
    validRingSize v.toNat = true ↔ v = 16 ∨ v = 32 ∨ v = 64 ∨ v = 128 ∨ v = 256 := by
  simp only [validRingSize, List.contains_eq_mem, List.mem_cons, List.not_mem_nil, or_false, decide_eq_true_eq,
    ← BitVec.toNat_inj]
  rfl

/-- A write of RING_SIZE in STOPPED takes the five slot counts. -/
theorem writeRingSize_of_stopped {s : State} (stopped : s.engine.state = .stopped) (v : Word) : writeRingSize v s =
    if v = 16 ∨ v = 32 ∨ v = 64 ∨ v = 128 ∨ v = 256 then
      { s with engine := { s.engine with ringSize := v.toNat, submit := 0, fetch := 0, complete := 0 } }
    else s := by
  simp only [writeRingSize, stopped, true_and, validRingSize_iff]

end Sys2Proof.Machine

open Sys2Proof Sys2Proof.Machine

/-- Settles O10: Table 9-3 one engine state at a time; START decides by the indices (`Engine.begin_eq`). -/
theorem engineControlsByState : Obligations.EngineControlsByState := by
  unfold Obligations.EngineControlsByState
  intro s slot
  refine ⟨fun stopped => ⟨?_, ?_, ?_⟩, fun idle => ⟨?_, ?_, ?_⟩, fun step phase stopPending busy => ⟨?_, ?_, ?_⟩,
    fun halted => ⟨?_, ?_, ?_⟩⟩
  · exact congrArg Host.Outcome.next (startEngine_of_stopped stopped slot)
  · exact congrArg Host.Outcome.next (stopEngine_of_at_rest (.inl stopped))
  · exact congrArg Host.Outcome.next (clearEngineHalt_of_not_halted (by simp [stopped]))
  · exact congrArg Host.Outcome.next (startEngine_of_not_stopped (by simp [idle]))
  · exact congrArg Host.Outcome.next (stopEngine_of_idle idle)
  · exact congrArg Host.Outcome.next (clearEngineHalt_of_not_halted (by simp [idle]))
  · exact congrArg Host.Outcome.next (startEngine_of_not_stopped (by simp [busy]))
  · exact congrArg Host.Outcome.next (stopEngine_of_busy busy)
  · exact congrArg Host.Outcome.next (clearEngineHalt_of_not_halted (by simp [busy]))
  · exact congrArg Host.Outcome.next (startEngine_of_not_stopped (by simp [halted]))
  · exact congrArg Host.Outcome.next (stopEngine_of_at_rest (.inr halted))
  · exact congrArg Host.Outcome.next (clearEngineHalt_of_halted halted)

/-- Settles O11: which values are ignored is `submitIgnored_of_outside` and `submitIgnored_of_slot`; a value that is taken moves the
submit index, and in IDLE the engine begins by the indices it then has. -/
theorem submitIndexWriteByState : Obligations.SubmitIndexWriteByState := by
  unfold Obligations.SubmitIndexWriteByState
  intro s v slot
  refine ⟨fun outside => ?_, fun inside => ?_⟩
  · exact congrArg Host.Outcome.next (writeSubmit_of_ignored (submitIgnored_of_outside outside))
  have ignored := submitIgnored_of_slot inside
  refine ⟨fun step phase stopPending busy => congrArg Host.Outcome.next ?_, fun rest => congrArg Host.Outcome.next ?_,
    fun idle => congrArg Host.Outcome.next ?_⟩
  · split_ifs with covered
    · exact writeSubmit_of_ignored (ignored.mpr ⟨covered, step, phase, stopPending, busy⟩)
    · exact writeSubmit_of_not_idle (fun ignores => covered (ignored.mp ignores).1) (by simp [busy])
  · refine writeSubmit_of_not_idle (fun ignores => ?_) ?_
    · obtain ⟨-, step, phase, stopPending, busy⟩ := ignored.mp ignores
      simp [busy] at rest
    · rcases rest with stopped | halted
      · simp [stopped]
      · simp [halted]
  · have taken : ¬ submitIgnored s.engine v.toNat = true := fun ignores => by
      obtain ⟨-, step, phase, stopPending, busy⟩ := ignored.mp ignores
      simp [busy] at idle
    rw [writeSubmit_of_idle taken idle, Engine.begin_eq (e := { s.engine with submit := v.toNat }) slot]

/-- Settles O12: in STOPPED the base is `ringBaseWith`, whose fields are `ringBaseWith_zero` and `ringBaseWith_one`, and the size one of
the five; in any other state both writes fail their test. -/
theorem ringConfigurationWrites : Obligations.RingConfigurationWrites := by
  unfold Obligations.RingConfigurationWrites
  intro s v
  refine ⟨fun stopped => ⟨⟨_, ?_, ringBaseWith_zero s.engine.ringBase v⟩, ⟨_, ?_, ringBaseWith_one s.engine.ringBase v⟩, ?_⟩,
    fun going => ⟨fun word => ?_, ?_⟩⟩
  · exact congrArg Host.Outcome.next (if_pos stopped)
  · exact congrArg Host.Outcome.next (if_pos stopped)
  · exact congrArg Host.Outcome.next (writeRingSize_of_stopped stopped v)
  · exact congrArg Host.Outcome.next (if_neg going)
  · exact congrArg Host.Outcome.next (if_neg fun taken => going taken.1)

end

section
/-!
PROOF. The answers of the memory side on the engine's tag: its writes answered OK (O31), an ERROR (O32), and its fetch, answered
with a command record (O34).
-/

namespace Sys2Proof.Machine

/-! ### The engine's tag answered OK (R129, R140) -/

/-- A response OK on the engine's tag: the tag ends, and the engine goes on with the beats read. No client is answered. -/
theorem respondOk_engine {f : IssuedTag} (origin : f.origin = .engine) (k : TagId) (data : List Beat) (s : State) :
    respondOk k f data s = engineAnswered (readData f data s) (endTag k f .free (spendFree f data s)) := by
  unfold respondOk answerTag
  rw [origin]
  rfl

/-- The end of a tag of lease 0, which is OPEN. -/
theorem endTag_of_leaseZero {s : State} {f : IssuedTag} (zero : f.lease = 0) (opened : (s.lease 0).state = .opened) (k : TagId) :
    endTag k f .free s = fetchEnded s k := by
  have going : ((s.setTag k .free).lease 0).state ≠ .draining := by
    rw [lease_setTag, opened]
    exact LeaseState.noConfusion
  unfold endTag fetchEnded
  rw [zero, fallOutstanding_of_not_draining _ going, lease_setTag]

theorem engine_fetchEnded (s : State) (k : TagId) : (fetchEnded s k).engine = s.engine := rfl

/-- A write of the engine answered OK: the tag ends, and the engine goes on without data. -/
theorem exec_engineWrite_ok {s : State} {k : TagId} {f : IssuedTag} (up : s.link = .up) (issued : s.tag k = .issued f)
    (origin : f.origin = .engine) (zero : f.lease = 0) (write : f.direction = .write) (opened : (s.lease 0).state = .opened)
    (data : List Beat) : exec (.memoryResponse k .ok data) s = .next (engineAnswered [] (fetchEnded s k)) := by
  have unread : readData f data s = [] := by simp only [readData, write]
  have unspent : spendFree f data s = s := by simp only [spendFree, write]
  rw [exec_memoryResponse_ok up issued, respondOk_engine origin, unread, unspent, endTag_of_leaseZero zero opened]

theorem engineAnswered_of_snapshot {s : State} {command : InHand} {address : Address} {beats : List Beat} {phase : RequestPhase}
    {stopPending : Bool} (writing : s.engine.state = .busy (.snapshot command address beats) phase stopPending)
    (data : List Beat) :
    engineAnswered data s = s.setEngineState (.busy (.completion command) .presented stopPending) := by
  simp only [engineAnswered, writing]

theorem engineAnswered_of_completion {s : State} {command : InHand} {phase : RequestPhase} {stopPending : Bool}
    (writing : s.engine.state = .busy (.completion command) phase stopPending) (data : List Beat) :
    engineAnswered data s = completeCommand stopPending s := by
  simp only [engineAnswered, writing]

theorem engineAnswered_of_fetch {s : State} {phase : RequestPhase} {stopPending : Bool}
    (fetching : s.engine.state = .busy .fetch phase stopPending) (data : List Beat) :
    engineAnswered data s = executeFetched (firstBeat data) takeRecord stopPending s := by
  simp only [engineAnswered, fetching]

/-! ### The completion write answered (R150, R152) -/

/-- The engine after the completion write, by its indices. -/
theorem Engine.completed_eq {e : Engine} (slot : e.fetch < e.ringSize) (stopPending : Bool) : e.completed stopPending = { e with
    complete := (e.complete + 1) % e.ringSize
    state := if stopPending then .stopped else if e.submit = e.fetch then .idle else .busy .fetch .presented false } := by
  unfold Engine.completed
  rw [Engine.begin_eq (e := { e with complete := e.next e.complete }) slot]
  rfl

/-- COMMAND is set at each completion under EACH, and under CAUGHT_UP at one that leaves the engine IDLE (R152). -/
theorem intStatus_completeCommand {s : State} (slot : s.engine.fetch < s.engine.ringSize) (stopPending : Bool) :
    (completeCommand stopPending s).intStatus =
      if s.engine.completionMode = .each ∨ stopPending = false ∧ s.engine.submit = s.engine.fetch then
        s.intStatus ||| 0b000010#6
      else s.intStatus := by
  have pending : ({ s.engine with complete := s.engine.next s.engine.complete } : Engine).hasPending = true ↔
      ¬ s.engine.submit = s.engine.fetch := Engine.hasPending_iff_of_slot slot
  unfold completeCommand
  dsimp only at pending ⊢
  simp only [pending]
  cases mode : s.engine.completionMode with
  | each =>
    simp only [true_or, if_true, reduceCtorEq, if_false]
    split_ifs <;> rfl
  | caughtUp =>
    cases stopPending with
    | true => simp
    | false =>
      by_cases caughtUp : s.engine.submit = s.engine.fetch
      · simp [caughtUp, Source.mask]
      · simp [caughtUp]

/-! ### A fault counted on lease 0 (R8, R21, R130) -/

/-- On an OPEN lease that notifies of nothing, a memory fault raises the fault count and lowers outstanding. -/
theorem Lease.fallen_faulted_of_silent {r : Lease} (opened : r.state = .opened) (silent : r.notify = 0)
    (counted : 0 < r.outstanding) : r.faulted.fallen =
      { r with faultCount := min (r.faultCount + 1) 4294967295, outstanding := r.outstanding - 1 } := by
  have unraised : r.raised .fault = r.reasons := by simp [Lease.raised, silent]
  have some_out : r.outstanding ≠ 0 := by omega
  simp [Lease.faulted, Lease.fallen, unraised, some_out, opened, Config.max32]

/-- A reason set that stands brings no lease into the attention set. -/
theorem attentionAfter_reasons (s : State) (l : LeaseId) : s.attentionAfter l (s.lease l).reasons = s.attention :=
  if_neg fun joins => joins.2 joins.1

theorem statusAfter_reasons (s : State) (l : LeaseId) : s.statusAfter l (s.lease l).reasons = s.intStatus :=
  if_neg fun joins => joins.2 joins.1

/-! ### The fetch answered with a record (R143, R147, R148) -/

/-- A claim that answers the fetch depends on what its command does with the record alone. -/
theorem answerFetch_congr {r : Beat} {take take' : Beat → State → Taken} (same : ∀ u : State, take r u = take' r u) (s : State) :
    answerFetch r take s = answerFetch r take' s := by
  unfold answerFetch executeFetched
  simp only [same]

/-- A row of the ring is the claim that answers the fetch with the record of its code, taken by that code. -/
theorem exec_ringRow (code : Fin 12) (body : RecordBody) (s : State) : exec (ringRow code body) s =
    .next (answerFetch (commandRecord (BitVec.ofNat 8 code.val) body) takeRecord s) := by
  fin_cases code <;>
    exact congrArg Host.Outcome.next
      (answerFetch_congr (fun u => by simp only [takeRecord, recordCode_commandRecord]; rfl) s)

theorem exec_unknownCommandCode (code : Byte) (body : RecordBody) (s : State) :
    exec (.unknownCommandCode code body) s = .next (answerFetch (commandRecord code body) takeRecord s) := rfl

/-- A fetch of one beat answered OK with a record is the claim that answers the fetch with it. -/
theorem exec_fetch_ok {s : State} {t : TagId} {f : IssuedTag} {stopPending : Bool} (stands : FetchStands s t f stopPending)
    (read : f.direction = .read) (one : f.length = 1) (r : Beat) :
    exec (.memoryResponse t .ok [r]) s = .next (answerFetch r takeRecord s) := by
  have beats : readData f [r] s = [r] := by
    simp only [readData, read, one]
    exact fitBeats_of_length [r] s.freeIndex
  have unspent : spendFree f [r] s = s := by simp [spendFree, read, one]
  have fetching : (fetchEnded s t).engine.state = .busy .fetch .issued stopPending := stands.busy
  rw [exec_memoryResponse_ok stands.up stands.tag, respondOk_engine stands.ofEngine, beats, unspent,
    endTag_of_leaseZero stands.ofLeaseZero stands.opened, engineAnswered_of_fetch fetching, answerFetch_of_stands stands]
  rfl

/-- No fetch stands at the memory side in LINK_DOWN, nor in any other engine state. -/
theorem fetchInFlight_none {s : State}
    (absent : s.link = .down ∨ ∀ stopPending, s.engine.state ≠ .busy .fetch .issued stopPending) : fetchInFlight s = none := by
  unfold fetchInFlight
  split
  · rename_i stopPending up fetching
    rcases absent with down | notFetching
    · simp [up] at down
    · exact absurd fetching (notFetching stopPending)
  · rfl

end Sys2Proof.Machine

open Sys2Proof Sys2Proof.Machine

/-- Settles O31: the tag ends on lease 0 (`exec_engineWrite_ok`), and the engine goes on by its step: to COMPLETION, or past the command
by its indices (`Engine.completed_eq`, `intStatus_completeCommand`). -/
theorem engineWritesAnswered : Obligations.EngineWritesAnswered := by
  unfold Obligations.EngineWritesAnswered
  intro s k f data stopPending up issued origin zero write opened _
  have answered := exec_engineWrite_ok up issued origin zero write opened data
  refine ⟨fun command address beats writing => ?_, fun command writing slot => ?_⟩
  · rw [answered, engineAnswered_of_snapshot (s := fetchEnded s k) writing]
  · rw [answered, engineAnswered_of_completion (s := fetchEnded s k) writing, completeCommand_eq,
      intStatus_completeCommand (s := fetchEnded s k) slot, engine_fetchEnded, Engine.completed_eq slot]
    rfl

/-- Settles O32: an ERROR is a fault on the tag (`faultTag_eq`); on lease 0 it counts and lowers outstanding alone, and the engine in BUSY
halts. -/
theorem engineErrorHalts : Obligations.EngineErrorHalts := by
  unfold Obligations.EngineErrorHalts
  intro s k f data step phase stopPending up issued origin zero opened silent counted busy
  rw [exec_memoryResponse_error up issued, faultTag_eq]
  simp only [zero]
  rw [Lease.fallen_faulted_of_silent opened silent counted, attentionAfter_reasons, statusAfter_reasons]
  simp only [opened, origin, busy, Origin.isEngine, IssuedTag.answer, Engine.halted, Engine.haltBits, List.append_nil]
  cases step <;> rfl

/-- Settles O34: both the response and the row are the claim that answers the fetch with the record (`exec_fetch_ok`, `exec_ringRow`),
which is none while no fetch stands. -/
theorem fetchAnswerRunsCommandRow : Obligations.FetchAnswerRunsCommandRow := by
  unfold Obligations.FetchAnswerRunsCommandRow
  refine ⟨fun s t f stopPending code body stands read one => ?_, fun s t f stopPending code body stands read one _ => ?_,
    fun s code other body absent => ⟨?_, ?_⟩⟩
  · rw [exec_fetch_ok stands read one, exec_ringRow]
  · rw [exec_fetch_ok stands read one, exec_unknownCommandCode]
  · rw [exec_ringRow, answerFetch_none _ (fetchInFlight_none absent)]
  · rw [exec_unknownCommandCode, answerFetch_none _ (fetchInFlight_none absent)]

end

section
/-!
PROOF. The claim in which a row of the ring executes, by what its command decides; NOP and the unknown codes (O36).
-/

namespace Sys2Proof.Machine

/-! ### The claim that answers the fetch, by the command's outcome (R147, R148, R158) -/

section Rows

variable {s : State} {t : TagId} {f : IssuedTag} {stopPending : Bool} {r : Beat} {take : Beat → State → Taken}

/-- A refused command leaves what the end of the fetch leaves. -/
theorem answered_refused (stands : FetchStands s t f stopPending) {status : CommandStatus}
    (refused : take r (fetchEnded s t) = refuseCommand status (fetchEnded s t)) :
    (.next (answerFetch r take s) : Host.Outcome State Fault Refusal) =
      .next (commandTaken (fetchEnded s t) r status 0 stopPending) := by
  rw [answerFetch_of_stands stands, executeFetched_eq _ _ _ _ 0 _ _ refused]

/-- A command refused OVER_CAPACITY answers the committed sum. -/
theorem answered_overCapacity (stands : FetchStands s t f stopPending)
    (refused : take r (fetchEnded s t) = overCapacity (fetchEnded s t)) :
    (.next (answerFetch r take s) : Host.Outcome State Fault Refusal) =
      .next (commandTaken (fetchEnded s t) r .overCapacity s.committed stopPending) := by
  rw [answerFetch_of_stands stands, executeFetched_eq _ _ _ _ _ _ _ refused, committed_fetchEnded]

/-- A command taken OK goes on to COMPLETION from the state with its changes. -/
theorem answered_ok (stands : FetchStands s t f stopPending) {n : Nat} {u : State}
    (taken : take r (fetchEnded s t) = okCommand n u) :
    (.next (answerFetch r take s) : Host.Outcome State Fault Refusal) = .next (commandTaken u r .ok n stopPending) := by
  rw [answerFetch_of_stands stands, executeFetched_eq _ _ _ _ _ _ _ taken]

end Rows

/-! ### NOP and the unknown codes (R148, R177) -/

theorem takeNop_of_passed {r : Beat} (passed : recordRefusal r = none) (s : State) : takeNop r s = okCommand 0 s := by
  simp only [takeNop, passed]

/-- A code from 12 on is none of the twelve. -/
theorem takeRecord_of_unknown {r : Beat} (unknown : 12 ≤ (recordCode r).toNat) (s : State) :
    takeRecord r s = takeUnknown r s := by
  unfold takeRecord
  split
  case h_13 => rfl
  all_goals omega

theorem takeUnknown_eq (r : Beat) (s : State) :
    takeUnknown r s = refuseCommand (if recordDoneMarker r ≠ 0 then .badParam else .badCommand) s := by
  unfold takeUnknown
  split <;> rfl

/-- The record whose bytes are all zero is a NOP that passes the common checks. -/
theorem commandRecord_zero : commandRecord 0 0 = 0 := by decide

theorem recordRefusal_zero : recordRefusal 0 = none := by decide

end Sys2Proof.Machine

open Sys2Proof Sys2Proof.Machine

/-- Settles O36: a NOP that passes the checks is taken with no effect (`takeNop_of_passed`); an unknown code is refused
by byte 31 or by the code (`takeRecord_of_unknown`, `takeUnknown_eq`). -/
theorem nopAndUnknownCodes : Obligations.NopAndUnknownCodes := by
  unfold Obligations.NopAndUnknownCodes
  refine fun s t f stopPending body stands => ⟨fun passed => ?_, ?_, fun code unknown => ?_⟩
  · exact answered_ok stands (takeNop_of_passed passed _)
  · have passed : recordRefusal (commandRecord 0 0) = none := by rw [commandRecord_zero, recordRefusal_zero]
    rw [← commandRecord_zero]
    exact answered_ok stands (takeNop_of_passed passed _)
  · refine answered_refused stands ?_
    rw [takeRecord_of_unknown (by rwa [recordCode_commandRecord]), takeUnknown_eq]
    rfl

end

section
/-!
PROOF. The commands that renew, suspend, resume and retire a lease (O40, O41, O42), and ACK_ATTENTION (O46).
-/

namespace Sys2Proof.Machine

/-! ### RENEW_LEASE (R165) -/

/-- RENEW_LEASE past the common checks, by what it looks at. -/
theorem takeRenewLease_of_passed {r : Beat} (passed : recordRefusal r = none) (s : State) : takeRenewLease r s =
    if (s.lease (recordLease r)).state = .free then refuseCommand .notOpen s
    else if (s.lease (recordLease r)).state = .draining then refuseCommand .tooLate s
    else if (s.lease (recordLease r)).term = 0 ∨ renewPeriods r = 0 then refuseCommand .badParam s
    else okCommand (renewedPeriods (s.lease (recordLease r)) (renewPeriods r)) (s.setLease (recordLease r)
      { s.lease (recordLease r) with periodsRemaining := renewedPeriods (s.lease (recordLease r)) (renewPeriods r) }) := by
  unfold takeRenewLease
  simp only [passed]
  cases (s.lease (recordLease r)).state <;> rfl

/-! ### SUSPEND_LEASE and RESUME_LEASE (R167, R168) -/

theorem takeSuspendLease_of_passed {r : Beat} (passed : recordRefusal r = none) (s : State) : takeSuspendLease r s =
    if recordLease r = 0 then refuseCommand .reservedLease s
    else match (s.lease (recordLease r)).state with
      | .opened => okCommand 0 (s.setLease (recordLease r) { s.lease (recordLease r) with state := .suspended })
      | .suspended => okCommand 0 s
      | .free | .draining => refuseCommand .notOpen s := by
  cases state : (s.lease (recordLease r)).state <;> simp only [takeSuspendLease, passed, state]

theorem takeResumeLease_of_passed {r : Beat} (passed : recordRefusal r = none) (s : State) : takeResumeLease r s =
    match (s.lease (recordLease r)).state with
      | .suspended => okCommand 0 (resumeLeaseAt (recordLease r) s)
      | .opened => okCommand 0 s
      | .free | .draining => refuseCommand .notOpen s := by
  cases state : (s.lease (recordLease r)).state <;> simp only [takeResumeLease, passed, state]

/-- The lease that is resumed is OPEN at its release trigger, so the trigger asks for a held entry alone. -/
theorem resumeLeaseAt_eq (l : LeaseId) (s : State) : resumeLeaseAt l s = handTrigger
    (if s.holdQueue l ≠ [] then (s.setLease l { s.lease l with state := .opened }).setRelease l .running
     else s.setLease l { s.lease l with state := .opened }) := by
  unfold resumeLeaseAt releaseTrigger
  simp only [lease_setLease_self, holdQueue_setLease, true_and]

/-! ### RETIRE_LEASE (R169) -/

theorem takeRetireLease_of_passed {r : Beat} (passed : recordRefusal r = none) (s : State) : takeRetireLease r s =
    if recordLease r = 0 then refuseCommand .reservedLease s
    else if (s.lease (recordLease r)).state = .opened ∨ (s.lease (recordLease r)).state = .suspended then
      okCommand (s.lease (recordLease r)).outstanding (drainStart (recordLease r) .retired s)
    else refuseCommand .notOpen s := by
  unfold takeRetireLease
  simp only [passed, active_iff]

/-! ### ACK_ATTENTION (R175, R178) -/

/-- A field of a field of a beat is a field of the beat. -/
theorem extractLsb'_extractLsb' {w n m a k : Nat} (x : BitVec w) (within : k + m ≤ n) :
    (x.extractLsb' a n).extractLsb' k m = x.extractLsb' (a + k) m := by
  refine BitVec.eq_of_getLsbD_eq fun i small => ?_
  have inside : k + i < n := by omega
  simp only [BitVec.getLsbD_extractLsb', small, inside, decide_true, Bool.true_and, Nat.add_assoc]

theorem reasonMask_eq (r : Beat) : reasonMask r = r.extractLsb' 60 4 := extractLsb'_extractLsb' r (by decide)

theorem takeAckAttention_of_passed {r : Beat} (passed : recordRefusal r = none) (s : State) : takeAckAttention r s =
    okCommand (reasonByte ((s.lease (recordLease r)).reasons &&& ~~~ reasonMask r))
      (acknowledge (recordLease r) (reasonMask r) s) := by
  simp only [takeAckAttention, passed]

/-- An acknowledgement changes one reason set and the attention set. -/
theorem acknowledge_fixed (l : LeaseId) (mask : ReasonSet) (s : State) : acknowledge l mask s =
    { s.setLease l { s.lease l with reasons := (s.lease l).reasons &&& ~~~ mask } with
      attention := (acknowledge l mask s).attention } := by
  unfold acknowledge
  dsimp only
  split <;> rfl

/-- The attention set stands while a reason is left. -/
theorem attention_acknowledge_of_left {l : LeaseId} {mask : ReasonSet} {s : State}
    (left : (s.lease l).reasons &&& ~~~ mask ≠ 0) : (acknowledge l mask s).attention = s.attention := by
  unfold acknowledge
  dsimp only
  rw [if_neg left, setLease_attention]

/-- The lease alone leaves the attention set when no reason is left. -/
theorem attention_acknowledge_of_none_left {l : LeaseId} {mask : ReasonSet} {s : State}
    (none_left : (s.lease l).reasons &&& ~~~ mask = 0) (j : LeaseId) :
    (acknowledge l mask s).attention.getLsbD j.val = (s.attention.getLsbD j.val && decide (j ≠ l)) := by
  unfold acknowledge
  dsimp only
  rw [if_pos none_left, getLsbD_leaveAttention, setLease_attention, decide_eq_decide.mpr ne_comm]

/-- The end of the fetch touches no reason set. -/
theorem reasons_fetchEnded (s : State) (t : TagId) (l : LeaseId) : ((fetchEnded s t).lease l).reasons = (s.lease l).reasons := by
  simp only [fetchEnded, lease_setLease]
  split
  · rename_i zero
    rw [← zero]
  · rfl

end Sys2Proof.Machine

open Sys2Proof Sys2Proof.Machine

/-- Settles O40: the branches of RENEW_LEASE in the order of its checks. -/
theorem renewLeaseRaisesPeriods : Obligations.RenewLeaseRaisesPeriods := by
  unfold Obligations.RenewLeaseRaisesPeriods
  intro s t f stopPending body stands r l s0 a n passed
  have taken := takeRenewLease_of_passed passed s0
  have periods : renewPeriods r = n := rfl
  rw [periods] at taken
  by_cases free : a.state = .free
  · rw [if_pos free] at taken ⊢
    exact answered_refused stands taken
  rw [if_neg free] at taken ⊢
  by_cases draining : a.state = .draining
  · rw [if_pos draining] at taken ⊢
    exact answered_refused stands taken
  rw [if_neg draining] at taken ⊢
  by_cases unfit : a.term = 0 ∨ n = 0
  · rw [if_pos unfit] at taken ⊢
    exact answered_refused stands taken
  · rw [if_neg unfit] at taken ⊢
    exact answered_ok stands taken

/-- Settles O41: both commands by the lease's state, which the end of the fetch leaves (`state_fetchEnded`); lease 0, whose
record it touches, is never suspended or resumed. -/
theorem suspendAndResumeLease : Obligations.SuspendAndResumeLease := by
  unfold Obligations.SuspendAndResumeLease
  constructor
  · intro s t f stopPending body stands r l s0 passed
    have taken := takeSuspendLease_of_passed passed s0
    by_cases zero : l = 0
    · rw [if_pos zero] at taken ⊢
      exact answered_refused stands taken
    rw [if_neg zero, lease_fetchEnded_ne s t zero] at taken
    rw [if_neg zero]
    cases state : (s.lease l).state with
    | free | draining =>
      rw [state] at taken
      exact answered_refused stands taken
    | opened | suspended =>
      rw [state] at taken
      exact answered_ok stands taken
  · intro s t f stopPending body stands r l s0 passed
    have taken := takeResumeLease_of_passed passed s0
    rw [state_fetchEnded] at taken
    cases state : (s.lease l).state with
    | free | draining =>
      rw [state] at taken
      exact answered_refused stands taken
    | opened =>
      rw [state] at taken
      exact answered_ok stands taken
    | suspended =>
      have other : l ≠ 0 := fun zero => by simp [zero, stands.opened] at state
      rw [state, resumeLeaseAt_eq, lease_fetchEnded_ne s t other] at taken
      exact answered_ok stands taken

/-- Settles O42: the branches of RETIRE_LEASE; a lease other than lease 0 stands as before the end of the fetch. -/
theorem retireLeaseTakesDrainStart : Obligations.RetireLeaseTakesDrainStart := by
  unfold Obligations.RetireLeaseTakesDrainStart
  intro s t f stopPending body stands r l s0 passed
  have taken := takeRetireLease_of_passed passed s0
  by_cases zero : l = 0
  · rw [if_pos zero] at taken ⊢
    exact answered_refused stands taken
  rw [if_neg zero, lease_fetchEnded_ne s t zero] at taken
  rw [if_neg zero]
  by_cases active : (s.lease l).state = .opened ∨ (s.lease l).state = .suspended
  · rw [if_pos active] at taken ⊢
    exact answered_ok stands taken
  · rw [if_neg active] at taken ⊢
    exact answered_refused stands taken

/-- Settles O46: the acknowledgement is the reason set left on the record and in the attention set (`acknowledge_fixed`). -/
theorem ackAttentionRemovesReasons : Obligations.AckAttentionRemovesReasons := by
  unfold Obligations.AckAttentionRemovesReasons
  intro s t f stopPending body stands r l s0 left passed
  have rest : (s0.lease l).reasons &&& ~~~ reasonMask r = left := by rw [reasons_fetchEnded, reasonMask_eq]
  have result : reasonByte left = 16 * left.toNat := Nat.mul_comm _ _
  refine ⟨acknowledge l (reasonMask r) s0, ?_, ?_, fun some_left => ?_, fun none_left => ?_⟩
  · rw [← result, ← rest]
    exact answered_ok stands (takeAckAttention_of_passed passed s0)
  · rw [← rest]
    exact acknowledge_fixed l (reasonMask r) s0
  · exact attention_acknowledge_of_left (rest.trans_ne some_left)
  · exact attention_acknowledge_of_none_left (rest.trans none_left)

end

section
/-!
PROOF. OPEN_LEASE: the ranges of its parameters (O38), and the lease it chooses and opens (O37).
-/

namespace Sys2Proof.Machine

/-! ### The parameter ranges (R160, Table 10-3) -/

theorem classOfCode_eq_some_iff (x : Byte) (c : LeaseClass) : classOfCode x = some c ↔ x = BitVec.ofNat 8 c.code := by
  constructor
  · unfold classOfCode
    intro named
    refine BitVec.eq_of_toNat_eq ?_
    split at named <;> cases named <;> assumption
  · rintro rfl
    cases c <;> rfl

theorem accessOfCode_eq_some_iff (x : BitVec 2) (a : Access) : accessOfCode x = some a ↔ x = BitVec.ofNat 2 a.code := by
  constructor
  · unfold accessOfCode
    intro named
    refine BitVec.eq_of_toNat_eq ?_
    split at named <;> cases named <;> assumption
  · rintro rfl
    cases a <;> rfl

/-- The ranges that depend on the class, class by class. -/
theorem openClassRanges_iff (c : LeaseClass) (budget carryLimit : Nat) (overdraw : Bool)
    (watchThreshold reviewSpan curbLength : Nat) :
    openClassRanges c budget carryLimit overdraw watchThreshold reviewSpan curbLength = true ↔
      match c with
      | .guaranteed => carryLimit ≤ budget ∧ watchThreshold = 0 ∧ reviewSpan = 0 ∧ curbLength = 0
      | .capped => carryLimit ≤ budget ∧ overdraw = false ∧ watchThreshold = 0 ∧ reviewSpan = 0 ∧ curbLength = 0
      | .shared => carryLimit = 0 ∧ overdraw = false ∧ 1 ≤ watchThreshold ∧ 1 ≤ reviewSpan ∧ reviewSpan ≤ 63 ∧
          1 ≤ curbLength ∧ curbLength ≤ 63 := by
  cases c <;>
    simp only [openClassRanges, Bool.and_eq_true, decide_eq_true_eq, Bool.not_eq_true', and_assoc]

/-- Without the fence flag the other fence fields are zero and give no fence; with it they give the fence of their window. -/
theorem openFence_eq_some_iff (present : Bool) (base limit : Nat) (access : BitVec 2) (fence : Option Fence) :
    openFence present base limit (accessOfCode access) (decide (access = 0)) = some fence ↔
      match fence with
      | none => present = false ∧ base = 0 ∧ limit = 0 ∧ access = 0
      | some w => present = true ∧ w.base = base ∧ w.limit = limit ∧ base ≤ limit ∧ limit ≤ 268435455 ∧
          access = BitVec.ofNat 2 w.access.code := by
  unfold openFence
  cases present with
  | false => cases fence <;> simp
  | true =>
    rw [if_pos rfl]
    cases fence with
    | none => cases accessOfCode access <;> simp
    | some w =>
      obtain ⟨wBase, wLimit, wAccess⟩ := w
      dsimp only
      rw [← accessOfCode_eq_some_iff]
      cases accessOfCode access with
      | none => simp
      | some a =>
        simp only [Option.ite_none_right_eq_some, Option.some.injEq, Fence.mk.injEq, true_and]
        tauto

/-- OPEN_LEASE takes parameters that pass each of the checks of R160. -/
theorem checkOpen_eq_some_iff (p : OpenParams) (c : LeaseClass) (fence : Option Fence) : checkOpen p = some (c, fence) ↔
    classOfCode p.classCode = some c ∧ p.k ≤ 12 ∧ 1 ≤ p.budget ∧ p.holdLimit ≤ 32 ∧
      openClassRanges c p.budget p.carryLimit p.overdraw p.watchThreshold p.reviewSpan p.curbLength = true ∧
      openFence p.fencePresent p.fenceBase p.fenceLimit (accessOfCode p.fenceAccess) (decide (p.fenceAccess = 0)) =
        some fence := by
  constructor
  · intro checked
    unfold checkOpen at checked
    split at checked
    · cases checked
    rename_i named
    split at checked
    · cases checked
    rename_i inside
    split at checked
    · cases checked
    rename_i ranges
    split at checked
    · cases checked
    rename_i fenced
    cases checked
    unfold Config.holdLimitMax at inside
    exact ⟨named, by omega, by omega, by omega, by simpa using ranges, fenced⟩
  · rintro ⟨named, k, budget, holdLimit, ranges, fenced⟩
    have inside : ¬ (12 < p.k ∨ p.budget = 0 ∨ Config.holdLimitMax < p.holdLimit) := by
      unfold Config.holdLimitMax
      omega
    simp only [checkOpen, named, if_neg inside, ranges, Bool.not_true, Bool.false_eq_true, if_false, fenced]

/-! ### The lease chosen (R159) -/

theorem chooseLease_zero (s : State) : chooseLease s 0 = .error .reservedLease := rfl

/-- ANY finds no lease when no id from 1 on is FREE with an empty reason set. -/
theorem chooseLease_any_of_none {s : State}
    (none_free : ∀ l : LeaseId, l ≠ 0 → ¬ ((s.lease l).state = .free ∧ (s.lease l).reasons = 0)) :
    chooseLease s 255 = .error .noLease := by
  have none_found : ((List.finRange 64).find? fun l => decide (l ≠ 0) && (s.lease l).openable) = none := by
    rw [List.find?_eq_none]
    intro l _ found
    simp only [Lease.openable, Bool.and_eq_true, decide_eq_true_eq] at found
    exact none_free l found.1 found.2
  unfold chooseLease
  rw [if_pos rfl, none_found]

/-- ANY finds the lowest id from 1 on that is FREE with an empty reason set. -/
theorem chooseLease_any_of_lowest {s : State} {l : LeaseId} (other : l ≠ 0) (free : (s.lease l).state = .free)
    (empty : (s.lease l).reasons = 0)
    (lowest : ∀ j : LeaseId, j ≠ 0 → j < l → ¬ ((s.lease j).state = .free ∧ (s.lease j).reasons = 0)) :
    chooseLease s 255 = .ok l := by
  have found : ((List.finRange 64).find? fun l => decide (l ≠ 0) && (s.lease l).openable) = some l := by
    rw [List.find?_eq_some_iff_getElem]
    refine ⟨by simp [other, Lease.openable, free, empty], l.val, by simp, by simp, fun j below => ?_⟩
    have passed_over := lowest ⟨j, below.trans l.isLt⟩
    simp only [List.getElem_finRange, Fin.cast_mk, Lease.openable, Bool.not_eq_true', Bool.and_eq_false_iff,
      decide_eq_false_iff_not, ne_eq]
    by_contra eligible
    push Not at eligible
    obtain ⟨above, at_j⟩ := eligible
    exact passed_over above below at_j
  unfold chooseLease
  rw [if_pos rfl, found]

/-- A named id other than 0 is taken or refused by the lease's state and reason set. -/
theorem chooseLease_named {s : State} {field : Byte} {l : LeaseId} (other : l ≠ 0) (named : field.toNat = l.val) :
    chooseLease s field = match (s.lease l).state with
      | .free => if (s.lease l).reasons = 0 then .ok l else .error .inUse
      | .draining => .error .draining
      | .opened | .suspended => .error .inUse := by
  have not_any : field ≠ 255 := by
    rintro rfl
    have := l.isLt
    simp at named
    omega
  have lease : Fin.ofNat 64 field.toNat = l := by
    rw [named]
    exact Fin.ofNat_val_eq_self l
  cases state : (s.lease l).state <;> simp only [chooseLease, if_neg not_any, lease, if_neg other, state]

/-! ### OPEN_LEASE past the common checks (R159 to R161) -/

theorem takeOpenLease_of_error {r : Beat} {s : State} {status : CommandStatus} (passed : recordRefusal r = none)
    (refused : chooseLease s (recordLeaseField r) = .error status) : takeOpenLease r s = refuseCommand status s := by
  simp only [takeOpenLease, passed, refused]

theorem takeOpenLease_of_unfit {r : Beat} {s : State} {l : LeaseId} (passed : recordRefusal r = none)
    (chosen : chooseLease s (recordLeaseField r) = .ok l) (unfit : checkOpen (openParams r) = none) :
    takeOpenLease r s = refuseCommand .badParam s := by
  simp only [takeOpenLease, passed, chosen, unfit]

theorem takeOpenLease_of_fit {r : Beat} {s : State} {l : LeaseId} {c : LeaseClass} {fence : Option Fence}
    (passed : recordRefusal r = none) (chosen : chooseLease s (recordLeaseField r) = .ok l)
    (fit : checkOpen (openParams r) = some (c, fence)) : takeOpenLease r s =
      if c = .guaranteed ∧ s.capacity < s.committed + rateOf (openParams r).budget (openParams r).k then
        refuseCommand .overCapacity s
      else okCommand l.val (openRecord l c fence (openParams r) s) := by
  simp only [takeOpenLease, passed, chosen, fit, openLeaseAt_eq]

/-- The flags, the fence access and the notify set of OPEN_LEASE stand in byte 7 of its record (R185). -/
theorem openParams_byte7 (r : Beat) :
    (byteAt r 7).getLsbD 0 = r.getLsbD 56 ∧ (byteAt r 7).getLsbD 1 = r.getLsbD 57 ∧
      (byteAt r 7).extractLsb' 2 2 = r.extractLsb' 58 2 ∧ (byteAt r 7).extractLsb' 4 4 = r.extractLsb' 60 4 :=
  ⟨BitVec.getLsbD_extractLsb' 56 8 r 0, BitVec.getLsbD_extractLsb' 56 8 r 1, extractLsb'_extractLsb' r (by decide),
    extractLsb'_extractLsb' r (by decide)⟩

end Sys2Proof.Machine

open Sys2Proof Sys2Proof.Machine

/-- Settles O38: each check of `checkOpen` is one of the ranges of Table 10-3. -/
theorem openLeaseParameterRanges : Obligations.OpenLeaseParameterRanges := by
  unfold Obligations.OpenLeaseParameterRanges
  intro p c fence
  rw [checkOpen_eq_some_iff, classOfCode_eq_some_iff, openClassRanges_iff, openFence_eq_some_iff]
  cases c <;> cases fence <;> exact Iff.rfl

/-- Settles O37: the lease is chosen or refused by the records as they stood, since only lease 0's record ends with the fetch
(`lease_fetchEnded_ne`); then come the ranges and the capacity figure (`takeOpenLease_of_fit`). -/
theorem openLeaseChoosesAndOpens : Obligations.OpenLeaseChoosesAndOpens := by
  unfold Obligations.OpenLeaseChoosesAndOpens
  refine ⟨fun r => ?_, ?_⟩
  · obtain ⟨overdraw, present, access, notify⟩ := openParams_byte7 r
    unfold openParams
    rw [overdraw, present, access, notify]
    rfl
  intro s t f stopPending body stands r p s0 refused passed
  have same : ∀ {l : LeaseId}, l ≠ 0 → s0.lease l = s.lease l := fun other => lease_fetchEnded_ne s t other
  have refuses : ∀ {status : CommandStatus}, chooseLease s0 (recordLeaseField r) = .error status → refused status :=
    fun error => answered_refused stands (takeOpenLease_of_error passed error)
  refine ⟨fun zero => refuses ?_, fun any none_free => refuses ?_, fun l other named => ⟨fun draining => refuses ?_,
    fun used => refuses ?_⟩, fun l other free empty chosen => ?_⟩
  · rw [recordLeaseField, zero, chooseLease_zero]
  · rw [recordLeaseField, any]
    exact chooseLease_any_of_none fun l other => by rw [same other]; exact none_free l other
  · rw [recordLeaseField, chooseLease_named other named, same other, draining]
  · rw [recordLeaseField, chooseLease_named other named, same other]
    rcases used with opened | suspended | ⟨free, reasons⟩
    · rw [opened]
    · rw [suspended]
    · simp only [free, if_neg reasons]
  · have chosen : chooseLease s0 (recordLeaseField r) = .ok l := by
      rcases chosen with named | ⟨any, lowest⟩
      · rw [recordLeaseField, chooseLease_named other named, same other]
        simp only [free, if_pos empty]
      · rw [recordLeaseField, any]
        refine chooseLease_any_of_lowest other (by rw [same other, free]) (by rw [same other, empty]) fun j above below => ?_
        rw [same above]
        exact lowest j above below
    refine ⟨fun unfit => answered_refused stands (takeOpenLease_of_unfit passed chosen unfit), fun c fence fit => ?_⟩
    have taken := takeOpenLease_of_fit passed chosen fit
    dsimp only
    split
    · rename_i short
      exact answered_refused stands (taken.trans (if_pos short))
    · rename_i fits
      have opened := taken.trans (if_neg fits)
      rw [openRecord, same other] at opened
      exact answered_ok stands opened

end

section
/-!
PROOF. RESIZE_LEASE (O39), and the commands that bind and unbind a stream slot (O44).
-/

namespace Sys2Proof.Machine

/-! ### The checks of RESIZE_LEASE (R163, R61) -/

/-- The ranges of R163 hang on whether the lease is SHARED and whether it is lease 0. -/
theorem resizeRanges_iff (c : LeaseClass) (l : LeaseId) (budget carryLimit holdLimit watchThreshold reviewSpan curbLength : Nat) :
    resizeRanges c (decide (l = 0)) budget carryLimit holdLimit watchThreshold reviewSpan curbLength = true ↔
      1 ≤ budget ∧ holdLimit ≤ 32 ∧ (l = 0 → holdLimit = 0) ∧
        (c = .shared → carryLimit = 0 ∧ 1 ≤ watchThreshold ∧ 1 ≤ reviewSpan ∧ reviewSpan ≤ 63 ∧ 1 ≤ curbLength ∧
          curbLength ≤ 63) ∧
        (c ≠ .shared → watchThreshold = 0 ∧ reviewSpan = 0 ∧ curbLength = 0) := by
  have held : holdLimit ≤ (if decide (l = 0) then 0 else Config.holdLimitMax) ↔ holdLimit ≤ 32 ∧ (l = 0 → holdLimit = 0) := by
    by_cases zero : l = 0
    · simp only [zero, decide_true, if_true, true_imp_iff]
      omega
    · simp [zero, Config.holdLimitMax]
  unfold resizeRanges
  rw [Bool.and_eq_true, Bool.and_eq_true, decide_eq_true_eq, decide_eq_true_eq, held]
  cases c <;> simp [and_assoc]

/-- The committed sum after a RESIZE_LEASE to a budget. -/
def resizedSum (s : State) (l : LeaseId) (budget : Nat) : Nat :=
  if (s.lease l).cls = .guaranteed then committedWith s l budget else s.committed

theorem committed_resizeLeaseAt (l : LeaseId) (p : ResizeParams) (s : State) :
    (resizeLeaseAt l p s).committed = resizedSum s l p.budget := by
  rw [resizeLeaseAt_eq, handTriggerIf_committed]
  split
  · rw [releaseTrigger_committed]
    rfl
  · rfl

theorem takeResizeLease_of_inactive {r : Beat} {s : State} (passed : recordRefusal r = none)
    (inactive : ¬ (s.lease (recordLease r)).active = true) : takeResizeLease r s = refuseCommand .notOpen s := by
  simp only [takeResizeLease, passed, Bool.eq_false_of_not_eq_true inactive, Bool.not_false, if_true]

/-- The range check of RESIZE_LEASE on its record. -/
def resizeFits (r : Beat) (s : State) : Bool :=
  resizeRanges (s.lease (recordLease r)).cls (decide (recordLease r = 0)) (resizeParams r).budget (resizeParams r).carryLimit
    (resizeParams r).holdLimit (resizeParams r).watchThreshold (resizeParams r).reviewSpan (resizeParams r).curbLength

theorem takeResizeLease_of_unfit {r : Beat} {s : State} (passed : recordRefusal r = none)
    (active : (s.lease (recordLease r)).active = true) (unfit : ¬ resizeFits r s = true) :
    takeResizeLease r s = refuseCommand .badParam s := by
  have unfit := Bool.eq_false_of_not_eq_true unfit
  unfold resizeFits at unfit
  simp only [takeResizeLease, passed, active, unfit, Bool.not_true, Bool.not_false, Bool.false_eq_true, if_false, if_true]

/-- RESIZE_LEASE past its checks on state and ranges meets the capacity figure. -/
theorem takeResizeLease_of_fit {r : Beat} {s : State} (passed : recordRefusal r = none)
    (active : (s.lease (recordLease r)).active = true) (fit : resizeFits r s = true) : takeResizeLease r s =
      if (s.lease (recordLease r)).cls = .guaranteed ∧ (s.lease (recordLease r)).budget < (resizeParams r).budget ∧
          s.capacity < resizedSum s (recordLease r) (resizeParams r).budget then overCapacity s
      else okCommand (resizedSum s (recordLease r) (resizeParams r).budget)
        (resizeLeaseAt (recordLease r) (resizeParams r) s) := by
  unfold resizeFits at fit
  simp only [takeResizeLease, passed, active, fit, Bool.not_true, Bool.false_eq_true, if_false, committed_resizeLeaseAt]
  refine if_congr (and_congr_right fun guaranteed => ?_) rfl rfl
  rw [resizedSum, if_pos guaranteed]

/-! ### The changes of RESIZE_LEASE (R164) -/

/-- The record after a RESIZE_LEASE, whatever its class: the watch fields and the regime's counters move on a SHARED lease alone. -/
theorem Lease.resize_eq (r : Lease) (budget carryLimit holdLimit watchThreshold reviewSpan curbLength : Nat) :
    r.resize budget carryLimit holdLimit watchThreshold reviewSpan curbLength = { r with
      budget := budget
      carryLimit := min carryLimit budget
      credit := if r.budget < budget then min (r.credit + (budget - r.budget)) 4294967295 else r.credit
      holdLimit := holdLimit
      watchThreshold := if r.cls = .shared then watchThreshold else r.watchThreshold
      reviewSpan := if r.cls = .shared then reviewSpan else r.reviewSpan
      curbLength := if r.cls = .shared then curbLength else r.curbLength
      reviewCounter := if r.cls = .shared ∧ r.regime = .watch then min r.reviewCounter reviewSpan else r.reviewCounter
      curbRemaining := if r.cls = .shared ∧ r.regime = .curb then min r.curbRemaining curbLength else r.curbRemaining } := by
  by_cases shared : r.cls = .shared
  · simp only [Lease.resize_of_shared shared, shared, if_true, true_and]
    rfl
  · simp only [Lease.resize_of_not_shared shared, shared, if_false, false_and]
    rfl

/-- The release trigger of a budget increase meets the lease state and the hold queue as they stood. -/
theorem releaseTrigger_resizeRecord (l : LeaseId) (p : ResizeParams) (s : State) : releaseTrigger l (resizeRecord l p s) =
    if (s.lease l).state = .opened ∧ s.holdQueue l ≠ [] then (resizeRecord l p s).setRelease l .running
    else resizeRecord l p s := by
  obtain ⟨kept, -⟩ :=
    (s.lease l).resize_unread p.budget p.carryLimit p.holdLimit p.watchThreshold p.reviewSpan p.curbLength
  have state : ((resizeRecord l p s).lease l).state = (s.lease l).state := by
    rw [lease_of_set s (t := resizeRecord l p s) rfl, if_pos rfl, kept]
  unfold releaseTrigger
  rw [state]
  rfl

/-- A budget increase triggers the release, and an increase of budget or hold limit hands one trigger. -/
theorem resizeLeaseAt_of_released {l : LeaseId} {p : ResizeParams} {s released : State}
    (release : released = if (s.lease l).budget < p.budget ∧ (s.lease l).state = .opened ∧ s.holdQueue l ≠ [] then
      (resizeRecord l p s).setRelease l .running else resizeRecord l p s) : resizeLeaseAt l p s =
    if (s.lease l).budget < p.budget ∨ (s.lease l).holdLimit < p.holdLimit then handTrigger released else released := by
  rw [resizeLeaseAt_eq, releaseTrigger_resizeRecord, handTriggerIf_eq, release]
  by_cases grows : (s.lease l).budget < p.budget
  · simp only [grows, decide_true, Bool.true_or, if_true, true_or, true_and]
  · simp only [grows, decide_false, Bool.false_or, decide_eq_true_eq, if_false, false_or, false_and]

/-! ### Binding a slot (R85) -/

theorem bindSlot_of_same {p : PortId} {g : StreamTag} {l : LeaseId} {s : State} (same : s.slot p g = some l) :
    bindSlot p g l s = s := if_pos same

theorem bindSlot_of_unbound {p : PortId} {g : StreamTag} {s : State} (unbound : s.slot p g = none) (l : LeaseId) :
    bindSlot p g l s =
      handTrigger ((s.setLease l { s.lease l with boundSlots := (s.lease l).boundSlots + 1 }).setSlot p g (some l)) := by
  simp [bindSlot, unbound, dropSlot]

theorem bindSlot_of_other {p : PortId} {g : StreamTag} {j l : LeaseId} {s : State} (other : j ≠ l)
    (bound : s.slot p g = some j) : bindSlot p g l s =
      handTrigger (((s.setLease j { s.lease j with boundSlots := (s.lease j).boundSlots - 1 }).setLease l
        { s.lease l with boundSlots := (s.lease l).boundSlots + 1 }).setSlot p g (some l)) := by
  simp [bindSlot, bound, other, dropSlot, lease_setLease_ne]

/-! ### BIND_STREAM and UNBIND_STREAM past the common checks (R171, R172) -/

section Bindings

variable {r : Beat} (passed : recordRefusal r = none)

include passed

theorem takeBindStream_of_outside (outside : 8 ≤ bindingPort r ∨ 16 ≤ bindingTag r) (s : State) :
    takeBindStream r s = refuseCommand .badParam s := by
  have : ¬ (bindingPort r < 8 ∧ bindingTag r < 16) := by omega
  simp only [takeBindStream, passed, dif_neg this]

theorem takeUnbindStream_of_outside (outside : 8 ≤ bindingPort r ∨ 16 ≤ bindingTag r) (s : State) :
    takeUnbindStream r s = refuseCommand .badParam s := by
  have : ¬ (bindingPort r < 8 ∧ bindingTag r < 16) := by omega
  simp only [takeUnbindStream, passed, dif_neg this]

variable {p : PortId} {g : StreamTag} (port : bindingPort r = p.val) (tag : bindingTag r = g.val)

include port tag

theorem takeBindStream_of_slot (s : State) : takeBindStream r s =
    if recordLease r = 0 then refuseCommand .reservedLease s
    else if (s.lease (recordLease r)).active then okCommand 0 (bindSlot p g (recordLease r) s)
    else refuseCommand .notOpen s := by
  have inside : p.val < 8 ∧ g.val < 16 := ⟨p.isLt, g.isLt⟩
  simp only [takeBindStream, passed, port, tag, dif_pos inside]

theorem takeUnbindStream_of_unbound {s : State} (unbound : s.slot p g = none) :
    takeUnbindStream r s = okCommand 255 s := by
  have inside : p.val < 8 ∧ g.val < 16 := ⟨p.isLt, g.isLt⟩
  simp only [takeUnbindStream, passed, port, tag, dif_pos inside, unbound, unbindSlot]

theorem takeUnbindStream_of_bound {s : State} {j : LeaseId} (bound : s.slot p g = some j) : takeUnbindStream r s =
    okCommand j.val
      (handTrigger ((s.setLease j { s.lease j with boundSlots := (s.lease j).boundSlots - 1 }).setSlot p g none)) := by
  have inside : p.val < 8 ∧ g.val < 16 := ⟨p.isLt, g.isLt⟩
  simp only [takeUnbindStream, passed, port, tag, dif_pos inside, bound, unbindSlot, dropSlot]

end Bindings

end Sys2Proof.Machine

open Sys2Proof Sys2Proof.Machine

/-- Settles O39: RESIZE_LEASE by its checks in order (`takeResizeLease_of_inactive`, `_of_unfit`, `_of_fit`), then the record
(`Lease.resize_eq`) and the triggers (`resizeLeaseAt_of_released`). -/
theorem resizeLeaseChecksAndChanges : Obligations.ResizeLeaseChecksAndChanges := by
  unfold Obligations.ResizeLeaseChecksAndChanges
  refine ⟨fun r => rfl, ?_⟩
  intro s t f stopPending body stands r p l s0 a ranges sum passed
  have inactive_iff : a.state = .free ∨ a.state = .draining ↔ ¬ a.active = true := by
    rw [active_iff]
    cases a.state <;> simp
  have fits_iff : resizeFits r s0 = true ↔ ranges := resizeRanges_iff _ _ _ _ _ _ _ _
  by_cases inactive : a.state = .free ∨ a.state = .draining
  · rw [if_pos inactive]
    exact answered_refused stands (takeResizeLease_of_inactive passed (inactive_iff.mp inactive))
  have active : a.active = true := not_not.mp fun idle => inactive (inactive_iff.mpr idle)
  rw [if_neg inactive]
  by_cases fit : ranges
  swap
  · rw [if_pos fit]
    exact answered_refused stands (takeResizeLease_of_unfit passed active (fits_iff.not.mpr fit))
  have taken := takeResizeLease_of_fit passed active (fits_iff.mpr fit)
  rw [if_neg (not_not_intro fit)]
  by_cases short : a.cls = .guaranteed ∧ a.budget < p.budget ∧ s.capacity < sum
  · rw [if_pos short]
    exact answered_overCapacity stands (taken.trans (if_pos short))
  · rw [if_neg short]
    intro resized released
    have record : resizeRecord l p s0 = resized := by
      unfold resizeRecord
      rw [Lease.resize_eq]
      rfl
    have changed := resizeLeaseAt_of_released (l := l) (p := p) (s := s0) (released := released) (by rw [record]; rfl)
    exact answered_ok stands ((taken.trans (if_neg short)).trans (congrArg (okCommand sum) changed))

/-- Settles O44: both commands by the slot their record names; the end of the fetch leaves the slots and the records
of the leases other than 0 (`lease_fetchEnded_ne`). -/
theorem bindAndUnbindStream : Obligations.BindAndUnbindStream := by
  unfold Obligations.BindAndUnbindStream
  constructor
  · intro s t f stopPending body stands r l s0 passed
    refine ⟨fun outside => answered_refused stands (takeBindStream_of_outside passed outside s0), fun p g port tag => ?_⟩
    have taken := takeBindStream_of_slot passed port tag s0
    refine ⟨fun zero => answered_refused stands (taken.trans (if_pos zero)), fun other inactive => ?_,
      fun other open_or_suspended => ?_⟩
    · rw [if_neg other, lease_fetchEnded_ne s t other] at taken
      refine answered_refused stands (taken.trans (if_neg ?_))
      rw [active_iff]
      rcases inactive with free | draining
      · simp [free]
      · simp [draining]
    · rw [if_neg other, lease_fetchEnded_ne s t other, if_pos ((active_iff _).mpr open_or_suspended)] at taken
      refine ⟨fun same => ?_, fun unbound => ?_, fun j above elsewhere bound => ?_⟩
      · rw [bindSlot_of_same (s := s0) same] at taken
        exact answered_ok stands taken
      · rw [bindSlot_of_unbound (s := s0) unbound, lease_fetchEnded_ne s t other] at taken
        exact answered_ok stands taken
      · rw [bindSlot_of_other (s := s0) elsewhere bound, lease_fetchEnded_ne s t other, lease_fetchEnded_ne s t above] at taken
        exact answered_ok stands taken
  · intro s t f stopPending body stands r s0 passed
    refine ⟨fun outside => answered_refused stands (takeUnbindStream_of_outside passed outside s0), fun p g port tag => ?_⟩
    refine ⟨fun unbound => answered_ok stands (takeUnbindStream_of_unbound passed port tag (s := s0) unbound),
      fun j above bound => ?_⟩
    have taken := takeUnbindStream_of_bound passed port tag (s := s0) bound
    rw [lease_fetchEnded_ne s t above] at taken
    exact answered_ok stands taken

end

section
/-!
PROOF. QUERY_LEASE: the claim that copies the record, and the fields of the snapshot (O45).
-/

namespace Sys2Proof.Machine

/-! ### QUERY_LEASE past the common checks (R173) -/

theorem takeQueryLease_of_taken {r : Beat} (passed : recordRefusal r = none)
    (fits : (snapshotAddress r).toNat % 32 = 0 ∧ (snapshotAddress r).toNat % 4096 ≤ 3968) (s : State) : takeQueryLease r s =
      { status := .ok, result := 0, state := s, snapshot := some (snapshotAddress r,
        snapshotBeats (recordLease r) (s.lease (recordLease r)) (s.timer (recordLease r)).count) } := by
  obtain ⟨aligned, inside⟩ := fits
  have ok : snapshotAddressOk (snapshotAddress r) = true := by
    rw [snapshotAddressOk, decide_eq_true aligned, decide_eq_true inside, Bool.and_true]
  simp only [takeQueryLease, passed, ok, if_true]

theorem takeQueryLease_of_bad_address {r : Beat} (passed : recordRefusal r = none)
    (bad : ¬ ((snapshotAddress r).toNat % 32 = 0 ∧ (snapshotAddress r).toNat % 4096 ≤ 3968)) (s : State) :
    takeQueryLease r s = refuseCommand .badParam s := by
  have refused : ¬ snapshotAddressOk (snapshotAddress r) = true := by
    rwa [snapshotAddressOk, Bool.and_eq_true, decide_eq_true_eq, decide_eq_true_eq]
  simp only [takeQueryLease, passed, if_neg refused]

/-- A command that carries a snapshot goes on to SNAPSHOT, and changes nothing but the engine's step. -/
theorem answered_snapshot {s : State} {t : TagId} {f : IssuedTag} {stopPending : Bool} {r : Beat}
    {take : Beat → State → Taken} (stands : FetchStands s t f stopPending) {address : Address} {beats : List Beat}
    (taken : take r (fetchEnded s t) =
      { status := .ok, result := 0, snapshot := some (address, beats), state := fetchEnded s t }) :
    (.next (answerFetch r take s) : Host.Outcome State Fault Refusal) = .next { fetchEnded s t with
      engine := { (fetchEnded s t).engine with
        fetch := (s.engine.fetch + 1) % s.engine.ringSize
        state := .busy (.snapshot { code := recordCode r, sequence := recordSequence r, status := .ok, result := 0 }
          address beats) .presented stopPending } } := by
  rw [answerFetch_of_stands stands, executeFetched, taken]
  rfl

/-! ### Fields of a packed beat, as numbers (R184) -/

/-- No field of a list covers a byte from `offset` on, `bytes` long. -/
def clearOf (offset bytes : Nat) (fields : List (Nat × Nat × Nat)) : Bool :=
  fields.all fun f => decide (f.1 + f.2.1 ≤ offset) || decide (offset + bytes ≤ f.1)

theorem apart_of_clearOf {offset bytes : Nat} {fields : List (Nat × Nat × Nat)} (clear : clearOf offset bytes fields = true) :
    ∀ f ∈ fields, f.1 + f.2.1 ≤ offset ∨ offset + bytes ≤ f.1 := fun f listed => by
  simpa using List.all_eq_true.mp clear f listed

/-- The field at index `n`, where no other field covers its bytes. -/
theorem packBeat_bits (n : Nat) {fields : List (Nat × Nat × Nat)} {offset bytes value : Nat}
    (at_n : fields[n]? = some (offset, bytes, value)) (fits : offset + bytes ≤ 32)
    (clear : clearOf offset bytes (fields.take n ++ fields.drop (n + 1)) = true) :
    (packBeat fields).extractLsb' (8 * offset) (8 * bytes) = BitVec.ofNat (8 * bytes) value :=
  extract_packBeat_at n at_n fits (apart_of_clearOf clear)

theorem packBeat_field (n : Nat) {fields : List (Nat × Nat × Nat)} {offset bytes value : Nat}
    (at_n : fields[n]? = some (offset, bytes, value)) (fits : offset + bytes ≤ 32)
    (clear : clearOf offset bytes (fields.take n ++ fields.drop (n + 1)) = true) :
    ((packBeat fields).extractLsb' (8 * offset) (8 * bytes)).toNat = value % 2 ^ (8 * bytes) := by
  rw [packBeat_bits n at_n fits clear, BitVec.toNat_ofNat]

/-- Bytes that no field covers. -/
theorem packBeat_clear {fields : List (Nat × Nat × Nat)} {offset bytes : Nat} (clear : clearOf offset bytes fields = true) :
    ((packBeat fields).extractLsb' (8 * offset) (8 * bytes)).toNat = 0 := by
  rw [extract_packBeat_zero (apart_of_clearOf clear)]
  rfl

/-! ### Bytes of several fields (R184, R187) -/

/-- Byte 7 of the snapshot, bit by bit. -/
theorem snapshotFlags_bits (a : Lease) :
    (BitVec.ofNat 8 (snapshotFlags a)).getLsbD 0 = a.overdrawPermitted ∧
      (BitVec.ofNat 8 (snapshotFlags a)).getLsbD 1 = a.fence.isSome ∧
      ((BitVec.ofNat 8 (snapshotFlags a)).extractLsb' 2 2).toNat = (a.fence.elim 0 fun w => w.access.code) ∧
      (BitVec.ofNat 8 (snapshotFlags a)).extractLsb' 4 4 = a.notify := by
  unfold snapshotFlags reasonByte
  generalize a.overdrawPermitted = overdraw
  generalize a.notify = notify
  revert overdraw notify
  cases a.fence with
  | none => decide
  | some w =>
    obtain ⟨base, limit, access⟩ := w
    cases access <;> simp only [Option.isSome_some, Option.elim_some, Access.code] <;> decide

theorem reasonByte_bits : ∀ reasons : ReasonSet,
    (BitVec.ofNat 8 (reasonByte reasons)).extractLsb' 0 4 = 0 ∧
      (BitVec.ofNat 8 (reasonByte reasons)).extractLsb' 4 4 = reasons := by decide

/-- Bits of a byte of a beat whose value is known. -/
theorem bits_of_byte {b : Beat} {offset : Nat} {x : Byte} (byte : b.extractLsb' (8 * offset) 8 = x) {k m : Nat}
    (within : k + m ≤ 8) : b.extractLsb' (8 * offset + k) m = x.extractLsb' k m := by
  rw [← byte, extractLsb'_extractLsb' b within]

theorem bit_of_byte {b : Beat} {offset : Nat} {x : Byte} (byte : b.extractLsb' (8 * offset) 8 = x) {k : Nat} (within : k < 8) :
    b.getLsbD (8 * offset + k) = x.getLsbD k := by
  rw [← byte, BitVec.getLsbD_extractLsb', decide_eq_true within, Bool.true_and]

/-- The two bytes of the snapshot that hold several fields. -/
theorem snapshotBeats_bytes {l : LeaseId} {a : Lease} {position : Nat} {b0 b1 b2 : Beat}
    (beats : snapshotBeats l a position = [b0, b1, b2, 0]) :
    b0.extractLsb' (8 * 7) 8 = BitVec.ofNat 8 (snapshotFlags a) ∧
      b0.extractLsb' (8 * 30) 8 = BitVec.ofNat 8 (reasonByte a.reasons) := by
  cases beats
  exact ⟨packBeat_bits 7 (bytes := 1) rfl (by decide) rfl, packBeat_bits 17 (bytes := 1) rfl (by decide) rfl⟩

end Sys2Proof.Machine

open Sys2Proof Sys2Proof.Machine

/-- Settles O45: QUERY_LEASE is refused or carries the snapshot (`answered_snapshot`); of the snapshot each field
stands at its place since no other covers its bytes (`packBeat_field`), and bytes 7 and 30 of the first beat are read bit by bit. -/
theorem queryLeaseCopiesRecord : Obligations.QueryLeaseCopiesRecord := by
  unfold Obligations.QueryLeaseCopiesRecord
  constructor
  · intro s t f stopPending body stands r address s0 l passed
    by_cases fits : address.toNat % 32 = 0 ∧ address.toNat % 4096 ≤ 3968
    · have copied := answered_snapshot stands (takeQueryLease_of_taken passed fits s0)
      rw [recordCode_commandRecord] at copied
      rw [if_pos fits]
      exact copied
    · rw [if_neg fits]
      exact answered_refused stands (takeQueryLease_of_bad_address passed fits s0)
  · intro l a position
    refine ⟨_, _, _, rfl, ?_⟩
    intro field
    obtain ⟨flags, reasonBits⟩ := snapshotBeats_bytes (l := l) (a := a) (position := position) rfl
    obtain ⟨overdraw, fenced, access, notify⟩ := snapshotFlags_bits a
    obtain ⟨low, reasons⟩ := reasonByte_bits a.reasons
    refine ⟨⟨?lease, ?state, ?cause, ?cls, packBeat_field 4 rfl (by decide) rfl, packBeat_field 5 rfl (by decide) rfl,
        packBeat_field 6 rfl (by decide) rfl, (bit_of_byte flags (k := 0) (by decide)).trans overdraw,
        (bit_of_byte flags (k := 1) (by decide)).trans fenced, ?access,
        (bits_of_byte flags (k := 4) (m := 4) (by decide)).trans notify, packBeat_field 8 rfl (by decide) rfl,
        packBeat_field 9 rfl (by decide) rfl, packBeat_field 10 rfl (by decide) rfl, packBeat_field 11 rfl (by decide) rfl,
        packBeat_field 12 rfl (by decide) rfl, packBeat_field 13 rfl (by decide) rfl, packBeat_field 14 rfl (by decide) rfl,
        packBeat_field 15 rfl (by decide) rfl, packBeat_field 16 rfl (by decide) rfl,
        (bits_of_byte reasonBits (k := 0) (m := 4) (by decide)).trans low,
        (bits_of_byte reasonBits (k := 4) (m := 4) (by decide)).trans reasons, packBeat_clear rfl⟩,
      ⟨?regime, packBeat_field 1 rfl (by decide) rfl, packBeat_field 2 rfl (by decide) rfl,
        packBeat_field 3 rfl (by decide) rfl, packBeat_field 4 rfl (by decide) rfl, packBeat_clear rfl,
        packBeat_field 5 rfl (by decide) rfl, packBeat_field 6 rfl (by decide) rfl, ?base, ?limit, packBeat_clear rfl⟩,
      packBeat_field 0 rfl (by decide) rfl, packBeat_field 1 rfl (by decide) rfl, packBeat_field 2 rfl (by decide) rfl,
      packBeat_field 3 rfl (by decide) rfl, packBeat_field 4 rfl (by decide) rfl, packBeat_clear rfl⟩
    case lease => exact (packBeat_field 0 rfl (by decide) rfl).trans (Nat.mod_eq_of_lt (l.isLt.trans (by decide)))
    case state =>
      refine (packBeat_field 1 rfl (by decide) rfl).trans ?_
      cases a.state <;> rfl
    case cause =>
      refine (packBeat_field 2 rfl (by decide) rfl).trans ?_
      rcases a.drainCause with _ | _ | _ <;> rfl
    case cls =>
      refine (packBeat_field 3 rfl (by decide) rfl).trans ?_
      cases a.cls <;> rfl
    case access =>
      refine (congrArg BitVec.toNat (bits_of_byte flags (k := 2) (m := 2) (by decide))).trans (access.trans ?_)
      rcases a.fence with _ | ⟨base, limit, access⟩
      · rfl
      · cases access <;> rfl
    case regime =>
      refine (packBeat_field 0 rfl (by decide) rfl).trans ?_
      cases a.regime <;> rfl
    case base =>
      refine (packBeat_field 7 rfl (by decide) rfl).trans ?_
      cases a.fence <;> rfl
    case limit =>
      refine (packBeat_field 8 rfl (by decide) rfl).trans ?_
      cases a.fence <;> rfl

end

section
/-!
PROOF. The common checks of a record (R158, R185), and what a command that is not taken OK may change (O35).
-/

namespace Sys2Proof.Machine

/-! ### The common checks (R158) -/

/-- The three common checks all refuse BAD_PARAM. -/
theorem recordRefusal_eq (r : Beat) : recordRefusal r =
    if recordDoneMarker r ≠ 0 ∨ reservedNonzero r = true ∨ leaseFieldBad r = true then some .badParam else none := by
  rw [ite_or, ite_or]
  rfl

/-- The bits of Table 11-3 that a code reads. -/
def ReadsBit (c i : Nat) : Prop :=
  i < 8 ∨ 16 ≤ i ∧ i < 32 ∨ c ≠ 0 ∧ c ≠ 8 ∧ c ≠ 11 ∧ 8 ≤ i ∧ i < 16 ∨
  c = 1 ∧ 32 ≤ i ∧ i < 224 ∨
  c = 2 ∧ (48 ≤ i ∧ i < 56 ∨ 64 ≤ i ∧ i < 96 ∨ 112 ≤ i ∧ i < 160) ∨
  c = 3 ∧ 96 ≤ i ∧ i < 112 ∨
  (c = 7 ∨ c = 8) ∧ 32 ≤ i ∧ i < 48 ∨
  c = 9 ∧ 64 ≤ i ∧ i < 104 ∨
  c = 10 ∧ 60 ≤ i ∧ i < 64 ∨
  c = 11 ∧ 128 ≤ i ∧ i < 160

/-- The mask of a known code is its column of Table 11-3. -/
theorem readMask_iff (code : Fin 12) (i : Fin 256) :
    (readMask (BitVec.ofNat 8 code.val)).getLsbD i.val = true ↔ ReadsBit code.val i.val := by
  rw [getLsbD_readMask, decide_eq_true i.isLt, Bool.true_and]
  unfold ReadsBit
  fin_cases code <;>
    simp [fieldsRead] <;> omega

/-- Which of the known codes use the lease id field, and which of them takes ANY (Table 10-1). -/
theorem usesLeaseField_iff : ∀ code : Fin 12,
    (usesLeaseField (BitVec.ofNat 8 code.val) = true ↔ code.val ≠ 0 ∧ code.val ≠ 8 ∧ code.val ≠ 11) ∧
      (BitVec.ofNat 8 code.val = 1 ↔ code.val = 1) := by decide

/-- What the common checks refuse in a record of code `c`: byte 31, a bit the code does not read, the lease id field. -/
def RecordRefused (c : Nat) (r : Beat) : Prop :=
  r.extractLsb' 248 8 ≠ 0 ∨ (∃ i : Fin 256, r.getLsbD i.val = true ∧ ¬ ReadsBit c i.val) ∨
    c ≠ 0 ∧ c ≠ 8 ∧ c ≠ 11 ∧ 64 ≤ (r.extractLsb' 8 8).toNat ∧ ¬ (c = 1 ∧ r.extractLsb' 8 8 = 255)

section Coded

variable {code : Fin 12} {r : Beat} (coded : recordCode r = BitVec.ofNat 8 code.val)

include coded

theorem leaseFieldBad_iff : leaseFieldBad r = true ↔ code.val ≠ 0 ∧ code.val ≠ 8 ∧ code.val ≠ 11 ∧
    64 ≤ (r.extractLsb' 8 8).toNat ∧ ¬ (code.val = 1 ∧ r.extractLsb' 8 8 = 255) := by
  obtain ⟨uses, any⟩ := usesLeaseField_iff code
  have field : recordLeaseField r = r.extractLsb' 8 8 := rfl
  unfold leaseFieldBad
  rw [coded, Bool.and_eq_true, Bool.and_eq_true, uses, field, decide_eq_true_eq, Bool.not_eq_true', Bool.and_eq_false_iff,
    beq_eq_false_iff_ne, beq_eq_false_iff_ne, ne_eq (BitVec.ofNat 8 code.val), any]
  tauto

theorem refused_iff : RecordRefused code.val r ↔
    recordDoneMarker r ≠ 0 ∨ reservedNonzero r = true ∨ leaseFieldBad r = true := by
  have reserved : reservedNonzero r = true ↔ ∃ i : Fin 256, r.getLsbD i.val = true ∧ ¬ ReadsBit code.val i.val := by
    simp only [reservedNonzero_iff, coded, ← readMask_iff, Bool.not_eq_true]
  rw [leaseFieldBad_iff coded, reserved]
  rfl

theorem recordRefusal_of_refused (refused : RecordRefused code.val r) : recordRefusal r = some .badParam := by
  rw [recordRefusal_eq, if_pos ((refused_iff coded).mp refused)]

theorem recordRefusal_eq_none_iff : recordRefusal r = none ↔ ¬ RecordRefused code.val r := by
  rw [recordRefusal_eq, refused_iff coded]
  exact ite_eq_right_iff.trans (imp_congr_right fun _ => iff_of_false (Option.some_ne_none _) id)

end Coded

/-- A record that passes names the lease of its lease id field, where its code uses the field and it is not ANY. -/
theorem recordLease_of_passed {c : Nat} {r : Beat} (passed : ¬ RecordRefused c r) (uses : c ≠ 0 ∧ c ≠ 8 ∧ c ≠ 11)
    (not_any : r.extractLsb' 8 8 ≠ 255) : (recordLease r).val = (r.extractLsb' 8 8).toNat := by
  have small : (r.extractLsb' 8 8).toNat < 64 := by
    by_contra big
    obtain ⟨no_nop, no_unbind, no_capacity⟩ := uses
    exact passed (.inr (.inr ⟨no_nop, no_unbind, no_capacity, Nat.le_of_not_lt big, fun any => not_any any.2⟩))
  exact Nat.mod_eq_of_lt small

/-- A known code whose record the common checks refuse is refused, whichever command it is. -/
theorem takeRecord_of_refusal {code : Fin 12} {r : Beat} {status : CommandStatus}
    (coded : recordCode r = BitVec.ofNat 8 code.val) (refused : recordRefusal r = some status) (s : State) :
    takeRecord r s = refuseCommand status s := by
  have known : (recordCode r).toNat < 12 := by
    rw [coded, BitVec.toNat_ofNat]
    exact (Nat.mod_le _ _).trans_lt code.isLt
  unfold takeRecord
  generalize (recordCode r).toNat = c at known
  interval_cases c <;>
    simp only [takeNop, takeOpenLease, takeResizeLease, takeRenewLease, takeSuspendLease, takeResumeLease, takeRetireLease,
      takeBindStream, takeUnbindStream, takeQueryLease, takeAckAttention, takeSetCapacity, refused]

/-! ### What the execute step decides (R148, R158) -/

/-- The ways a command of the ring can end: refused with no effect, refused OVER_CAPACITY with the committed sum and no effect,
taken OK, or a QUERY_LEASE with its snapshot. -/
inductive Taken.Ending (r : Beat) (s : State) : Taken → Prop where
  | refused (status : CommandStatus) : Taken.Ending r s (refuseCommand status s)
  | overCapacity : Taken.Ending r s (overCapacity s)
  | ok (n : Nat) (u : State) : Taken.Ending r s (okCommand n u)
  | query (asked : (recordCode r).toNat = 9) (address : Address) (beats : List Beat) :
    Taken.Ending r s { status := .ok, result := 0, snapshot := some (address, beats), state := s }

section Endings

variable (r : Beat) (s : State)

theorem ending_takeNop : Taken.Ending r s (takeNop r s) := by
  unfold takeNop
  split
  · exact .refused _
  · exact .ok _ _

theorem ending_takeOpenLease : Taken.Ending r s (takeOpenLease r s) := by
  unfold takeOpenLease
  split
  · exact .refused _
  split
  · exact .refused _
  split
  · exact .refused _
  split
  · exact .refused _
  · exact .ok _ _

theorem ending_takeResizeLease : Taken.Ending r s (takeResizeLease r s) := by
  unfold takeResizeLease
  split
  · exact .refused _
  dsimp only
  split
  · exact .refused _
  split
  · exact .refused _
  split
  · exact .overCapacity
  · exact .ok _ _

theorem ending_takeRenewLease : Taken.Ending r s (takeRenewLease r s) := by
  cases refusal : recordRefusal r with
  | some status =>
    simp only [takeRenewLease, refusal]
    exact .refused _
  | none =>
    rw [takeRenewLease_of_passed refusal]
    split
    · exact .refused _
    split
    · exact .refused _
    split
    · exact .refused _
    · exact .ok _ _

theorem ending_takeSuspendLease : Taken.Ending r s (takeSuspendLease r s) := by
  unfold takeSuspendLease
  split
  · exact .refused _
  dsimp only
  split
  · exact .refused _
  split
  · exact .ok _ _
  · exact .ok _ _
  · exact .refused _
  · exact .refused _

theorem ending_takeResumeLease : Taken.Ending r s (takeResumeLease r s) := by
  unfold takeResumeLease
  split
  · exact .refused _
  dsimp only
  split
  · exact .ok _ _
  · exact .ok _ _
  · exact .refused _
  · exact .refused _

theorem ending_takeRetireLease : Taken.Ending r s (takeRetireLease r s) := by
  unfold takeRetireLease
  split
  · exact .refused _
  dsimp only
  split
  · exact .refused _
  split
  · exact .ok _ _
  · exact .refused _

theorem ending_takeBindStream : Taken.Ending r s (takeBindStream r s) := by
  unfold takeBindStream
  split
  · exact .refused _
  dsimp only
  split
  · split
    · exact .refused _
    split
    · exact .ok _ _
    · exact .refused _
  · exact .refused _

theorem ending_takeUnbindStream : Taken.Ending r s (takeUnbindStream r s) := by
  unfold takeUnbindStream
  split
  · exact .refused _
  split
  · exact .ok _ _
  · exact .refused _

theorem ending_takeQueryLease (asked : (recordCode r).toNat = 9) : Taken.Ending r s (takeQueryLease r s) := by
  unfold takeQueryLease
  split
  · exact .refused _
  dsimp only
  split
  · exact .query asked _ _
  · exact .refused _

theorem ending_takeAckAttention : Taken.Ending r s (takeAckAttention r s) := by
  unfold takeAckAttention
  split
  · exact .refused _
  · exact .ok _ _

theorem ending_takeSetCapacity : Taken.Ending r s (takeSetCapacity r s) := by
  unfold takeSetCapacity
  split
  · exact .refused _
  split
  · exact .ok _ _
  · exact .overCapacity

theorem ending_takeRecord : Taken.Ending r s (takeRecord r s) := by
  unfold takeRecord
  split
  · exact ending_takeNop r s
  · exact ending_takeOpenLease r s
  · exact ending_takeResizeLease r s
  · exact ending_takeRenewLease r s
  · exact ending_takeSuspendLease r s
  · exact ending_takeResumeLease r s
  · exact ending_takeRetireLease r s
  · exact ending_takeBindStream r s
  · exact ending_takeUnbindStream r s
  · exact ending_takeQueryLease r s ‹_›
  · exact ending_takeAckAttention r s
  · exact ending_takeSetCapacity r s
  · rw [takeUnknown_eq]
    exact .refused _

end Endings

theorem commandTaken_toNat (s : State) (r : Beat) (status : CommandStatus) (n : Nat) (stopPending : Bool) :
    commandTaken s r status (BitVec.ofNat 32 n).toNat stopPending = commandTaken s r status n stopPending := by
  simp only [commandTaken, BitVec.ofNat_toNat, BitVec.setWidth_eq]

end Sys2Proof.Machine

open Sys2Proof Sys2Proof.Machine

/-- Settles O35: a record the common checks refuse is refused whichever its command (`takeRecord_of_refusal`), and each way a
command can end (`Taken.Ending`) goes on to its step with its code and sequence, without a change where it is not OK. -/
theorem refusedRecordChangesNothing : Obligations.RefusedRecordChangesNothing := by
  unfold Obligations.RefusedRecordChangesNothing
  intro code body c r reads refused
  have coded : recordCode r = BitVec.ofNat 8 code.val := recordCode_commandRecord _ _
  refine ⟨coded, rfl, recordRefusal_eq_none_iff coded, fun passed no_nop no_unbind no_capacity not_any => ?_, ?_⟩
  · exact recordLease_of_passed ((recordRefusal_eq_none_iff coded).mp passed) ⟨no_nop, no_unbind, no_capacity⟩
      not_any
  intro s t f stopPending stands
  rw [exec_ringRow]
  refine ⟨fun bad => answered_refused stands (takeRecord_of_refusal coded (recordRefusal_of_refused coded bad) _), ?_⟩
  generalize taken : takeRecord r (fetchEnded s t) = k
  have ending := ending_takeRecord r (fetchEnded s t)
  rw [taken] at ending
  cases ending with
  | refused status =>
    exact ⟨_, { code := recordCode r, sequence := recordSequence r, status := status, result := 0 },
      answered_refused stands taken, coded, rfl, .inl rfl, fun _ => ⟨rfl, fun some_result => absurd rfl some_result⟩⟩
  | overCapacity =>
    refine ⟨_, { code := recordCode r, sequence := recordSequence r, status := .overCapacity,
                   result := BitVec.ofNat 32 s.committed },
      answered_overCapacity stands taken, coded, rfl, .inl rfl, fun _ => ⟨?_, fun _ => rfl⟩⟩
    exact (commandTaken_toNat _ _ _ _ _).symm
  | ok n u =>
    exact ⟨_, { code := recordCode r, sequence := recordSequence r, status := .ok, result := BitVec.ofNat 32 n },
      answered_ok stands taken, coded, rfl, .inl rfl, fun not_ok => absurd rfl not_ok⟩
  | query asked address beats =>
    have only_query : ∀ code : Fin 12, (BitVec.ofNat 8 code.val).toNat = 9 → code = 9 := by decide
    exact ⟨_, { code := recordCode r, sequence := recordSequence r, status := .ok, result := 0 },
      answered_snapshot stands taken, coded, rfl, .inr ⟨only_query code (coded ▸ asked), rfl, address, beats, rfl⟩,
      fun not_ok => absurd rfl not_ok⟩

end

section
/-!
PROOF. The law of the attention set, kept by every step (O49).
-/

open Sys2Proof Sys2Proof.Machine

/-- Settles O49: of the changes a step is made of, those that raise or acknowledge reasons move the attention set with the reason set,
and the others leave both (`attentionLaw_change`). -/
theorem attentionLawIsKept : Obligations.AttentionLawIsKept := by
  unfold Obligations.AttentionLawIsKept
  exact fun s t law stepped => (step_changes stepped).keep attentionLaw_change law

end

section
/-!
PROOF. The resets that give the blocks their power-on values (O5, O6), and PORT_RESET as one client port reset after another (O9).
-/

namespace Sys2Proof.Machine

/-! ### Ports and tags after a power-on or soft reset (R69, R139, R183, R188) -/

/-- A port of a table settled after a reset is the settled unit that the reset put there. -/
theorem port_settlePorts_tabulate {s : State} {f : PortId → Port} (h : s.ports = tabulate f) (p : PortId) :
    (settlePorts s).port p = (f p).settle :=
  (port_settlePorts s p).trans (congrArg Port.settle (port_tabulate h p))

theorem port_softReset (s : State) (p : PortId) : (softReset s).port p = (s.port p).softReset.settle :=
  port_settlePorts_tabulate (s := softResetClaim s) rfl p

theorem tag_softReset (s : State) (k : TagId) : (softReset s).tag k = (s.tag k).orphan :=
  getElem_tabulate _ _ _

/-! ### PORT_RESET (R182, entry 14) -/

/-- The claim of PORT_RESET at one port: a client port reset when the mask names the port, none otherwise. -/
def resetNamedPort (mask : Byte) (s : State) (p : PortId) : State := if mask.getLsbD p.val then resetPort p s else s

/-- The state after the first `n` claims of PORT_RESET, in port order. -/
def afterPortClaims (mask : Byte) (s : State) (n : Nat) : State :=
  ((List.finRange 8).take n).foldl (resetNamedPort mask) s

/-- Eight claims are the whole command. -/
theorem afterPortClaims_eight (mask : Byte) (s : State) : afterPortClaims mask s 8 = resetPorts mask s := rfl

/-- The claim after `p` claims is the one at port `p`. -/
theorem afterPortClaims_succ (mask : Byte) (s : State) (p : PortId) :
    afterPortClaims mask s (p.val + 1) = resetNamedPort mask (afterPortClaims mask s p.val) p := by
  unfold afterPortClaims
  rw [List.take_succ_eq_append_getElem (by simp), List.foldl_append, List.getElem_finRange]
  rfl

end Sys2Proof.Machine

open Sys2Proof Sys2Proof.Machine

/-- Settles O5: each table but the ports stands as written, and each port is its power-on unit with its link, settled. -/
theorem powerOnResetTakesPowerOnValues : Obligations.PowerOnResetTakesPowerOnValues := by
  unfold Obligations.PowerOnResetTakesPowerOnValues
  intro s
  exact ⟨_, rfl, rfl, port_settlePorts_tabulate (f := fun p => { Port.powerOn with link := (s.port p).link }) rfl⟩

/-- Settles O6: each table but the ports and tags stands as written; each port is its flushed unit, settled, and each tag is
orphaned. -/
theorem softResetKeepsConfiguration : Obligations.SoftResetKeepsConfiguration := by
  unfold Obligations.SoftResetKeepsConfiguration
  intro s
  refine ⟨softReset s, rfl, rfl, port_softReset s, fun k => ?_⟩
  rw [tag_softReset]
  cases s.tag k with
  | free => rfl
  | issued f => rfl
  | orphaned => rfl

/-- Settles O9: the states between the eight claims are `afterPortClaims`. -/
theorem portResetTakesEachNamedPort : Obligations.PortResetTakesEachNamedPort := by
  unfold Obligations.PortResetTakesEachNamedPort
  intro s mask
  refine ⟨fun i => afterPortClaims mask s i.val, rfl, congrArg Host.Outcome.next (afterPortClaims_eight mask s).symm, fun p => ?_⟩
  have claim : afterPortClaims mask s p.succ.val = resetNamedPort mask (afterPortClaims mask s p.castSucc.val) p :=
    afterPortClaims_succ mask s p
  dsimp only
  rw [claim, resetNamedPort]
  split
  · rfl
  · rfl

end

section
/-!
PROOF. INT_STATUS, INT_ENABLE and the interrupt line (O13).
-/

namespace Sys2Proof.Machine

/-! ### The sources (Table 11-1) -/

/-- The bit position of a source in INT_STATUS and INT_ENABLE (Table 11-1). -/
def Source.bit : Source → Fin 6
  | .attention => 0
  | .command => 1
  | .halt => 2
  | .portStall => 3
  | .stray => 4
  | .linkReset => 5

theorem Source.mask_eq_twoPow (src : Source) : src.mask = BitVec.twoPow 6 src.bit := by cases src <;> rfl

/-- Each of the six bits is a source's. -/
theorem Source.bit_surjective : Function.Surjective Source.bit
  | 0 => ⟨.attention, rfl⟩
  | 1 => ⟨.command, rfl⟩
  | 2 => ⟨.halt, rfl⟩
  | 3 => ⟨.portStall, rfl⟩
  | 4 => ⟨.stray, rfl⟩
  | 5 => ⟨.linkReset, rfl⟩

theorem Source.mask_ne_zero (src : Source) : src.mask ≠ 0 := by cases src <;> decide

/-- A source is in a register exactly when its bit is 1. -/
theorem Source.and_mask_ne_zero_iff (x : BitVec 6) (src : Source) : x &&& src.mask ≠ 0 ↔ x.getLsbD src.bit = true := by
  have nonzero := src.mask_ne_zero
  rw [mask_eq_twoPow] at nonzero ⊢
  rw [BitVec.and_twoPow]
  split
  · next set => exact iff_of_true nonzero set
  · next clear => exact iff_of_false (fun some_bit => some_bit rfl) clear

/-! ### The interrupt line (R180) -/

/-- The line is high while some bit is 1 in both registers. -/
theorem interruptLine_iff_bit (s : State) :
    interruptLine s = true ↔ ∃ i : Fin 6, s.intStatus.getLsbD i = true ∧ s.intEnable.getLsbD i = true := by
  unfold interruptLine
  rw [bne_iff_ne, ne_eq, BitVec.eq_of_getElem_eq_iff]
  simp [Fin.exists_iff, BitVec.getLsbD_eq_getElem]

theorem interruptLine_iff_source (s : State) :
    interruptLine s = true ↔ ∃ src : Source, s.intStatus &&& src.mask ≠ 0 ∧ s.intEnable &&& src.mask ≠ 0 := by
  simp only [interruptLine_iff_bit, Source.and_mask_ne_zero_iff]
  exact Source.bit_surjective.exists

/-- No source set, no interrupt. -/
theorem interruptLine_of_clear {s : State} (clear : s.intStatus = 0) : interruptLine s = false := by
  simp [interruptLine, clear]

/-! ### Resets keep INT_ENABLE (R180) -/

theorem intEnable_softReset (s : State) : (softReset s).intEnable = s.intEnable := rfl

theorem intEnable_resetMemoryPort (s : State) : (resetMemoryPort s).intEnable = s.intEnable := by
  rw [resetMemoryPort_fixed]

theorem intEnable_signalMemoryReset (s : State) : (signalMemoryReset s).intEnable = s.intEnable := by
  simp only [signalMemoryReset, intEnable_resetMemoryPort]

theorem intEnable_resetPort (p : PortId) (s : State) : (resetPort p s).intEnable = s.intEnable := by
  rw [resetPort_eq, setPort_intEnable, handTriggerIf_intEnable, resetClaim_fixed]

theorem intEnable_resetPorts (mask : Byte) (s : State) : (resetPorts mask s).intEnable = s.intEnable := by
  unfold resetPorts
  refine List.foldlRecOn (motive := fun t : State => t.intEnable = s.intEnable) _ _ rfl fun t kept p _ => ?_
  split
  · exact (intEnable_resetPort p t).trans kept
  · exact kept

/-- Every reset but power-on keeps the enables. -/
theorem intEnable_of_reset {c : Instr} {s t : State}
    (reset : c = .softReset ∨ c = .memoryPortReset ∨ c = .memorySideReset ∨ (∃ p, c = .clientPortReset p) ∨
      ∃ m, c = .portReset m)
    (taken : exec c s = .next t) : t.intEnable = s.intEnable := by
  rcases reset with rfl | rfl | rfl | ⟨p, rfl⟩ | ⟨mask, rfl⟩
  · exact Host.Outcome.next.inj taken ▸ intEnable_softReset s
  · exact Host.Outcome.next.inj taken ▸ intEnable_signalMemoryReset s
  · exact Host.Outcome.next.inj taken ▸ intEnable_resetMemoryPort s
  · exact Host.Outcome.next.inj taken ▸ intEnable_resetPort p s
  · exact Host.Outcome.next.inj taken ▸ intEnable_resetPorts mask s

/-! ### Writes of the two registers (R179, R180) -/

theorem getLsbD_and_not_written (x : BitVec 6) (v : Word) {i : Nat} (h : i < 6) :
    (x &&& ~~~ v.extractLsb' 0 6).getLsbD i = (x.getLsbD i && !v.getLsbD i) := by
  simp [h]

theorem getLsbD_written (v : Word) {i : Nat} (h : i < 6) : (v.extractLsb' 0 6).getLsbD i = v.getLsbD i := by
  simp [h]

end Sys2Proof.Machine

open Sys2Proof Sys2Proof.Machine

/-- Settles O13: the registers bit by bit, the line by the bit of each source (`interruptLine_iff_source`), and the enables reset by
reset. -/
theorem interruptRegistersAndLine : Obligations.InterruptRegistersAndLine := by
  unfold Obligations.InterruptRegistersAndLine
  refine ⟨rfl, fun s v => ⟨⟨_, rfl, fun i h => getLsbD_and_not_written _ v h⟩, ⟨_, rfl, fun i h => getLsbD_written v h⟩,
    rfl, rfl, interruptLine_iff_source s, fun src i => ?_, fun c t => intEnable_of_reset, softReset s, rfl,
    interruptLine_of_clear rfl⟩⟩
  rw [intStatus_setSource, BitVec.getLsbD_or]

end

section
/-!
PROOF. The bytes of a completion record (O48).
-/

namespace Sys2Proof.Machine

/-! ### A field of a packed beat, as a word (R184) -/

/-- A field written from a word reads as that word. -/
theorem packBeat_word (n : Nat) {fields : List (Nat × Nat × Nat)} {offset bytes : Nat} {x : BitVec (8 * bytes)}
    (at_n : fields[n]? = some (offset, bytes, x.toNat)) (fits : offset + bytes ≤ 32)
    (clear : clearOf offset bytes (fields.take n ++ fields.drop (n + 1)) = true) :
    (packBeat fields).extractLsb' (8 * offset) (8 * bytes) = x := by
  rw [packBeat_bits n at_n fits clear, BitVec.ofNat_toNat, BitVec.setWidth_eq]

/-! ### The completion record (R151, R186) -/

theorem byteAt_completionRecord_code (c : InHand) : byteAt (completionRecord c) 0 = c.code :=
  packBeat_word 0 (bytes := 1) (x := c.code) rfl (by decide) rfl

theorem halfAt_completionRecord_sequence (c : InHand) : halfAt (completionRecord c) 2 = c.sequence :=
  packBeat_word 1 (bytes := 2) (x := c.sequence) rfl (by decide) rfl

theorem byteAt_completionRecord_status (c : InHand) : byteAt (completionRecord c) 4 = BitVec.ofNat 8 c.status.code :=
  packBeat_bits 2 (bytes := 1) rfl (by decide) rfl

theorem wordAt_completionRecord_result (c : InHand) : wordAt (completionRecord c) 8 = c.result :=
  packBeat_word 3 (bytes := 4) (x := c.result) rfl (by decide) rfl

theorem byteAt_completionRecord_done (c : InHand) : byteAt (completionRecord c) 31 = 1 :=
  packBeat_bits 4 (bytes := 1) rfl (by decide) rfl

/-- Bytes 1, 5 to 7 and 12 to 30 belong to no field. -/
theorem byteAt_completionRecord_unused (c : InHand) {i : Nat} (h : i = 1 ∨ 5 ≤ i ∧ i < 8 ∨ 12 ≤ i ∧ i < 31) :
    byteAt (completionRecord c) i = 0 := by
  refine extract_packBeat_zero (bytes := 1) ?_
  simp only [List.forall_mem_cons, List.not_mem_nil, false_imp_iff, implies_true, and_true]
  omega

end Sys2Proof.Machine

open Sys2Proof Sys2Proof.Machine

/-- Settles O48: each field stands at its place since no other covers its bytes, and the status byte by status. -/
theorem completionRecordLayout : Obligations.CompletionRecordLayout := by
  unfold Obligations.CompletionRecordLayout
  intro c
  refine ⟨byteAt_completionRecord_code c, halfAt_completionRecord_sequence c, ?_, wordAt_completionRecord_result c,
    byteAt_completionRecord_done c, fun i => byteAt_completionRecord_unused c⟩
  rw [byteAt_completionRecord_status]
  cases c.status <;> rfl

end

section
/-!
PROOF. A step runs the command at the front of the queue (O1).
-/

namespace Sys2Proof.Machine

/-- On a queue with a command at its front, the step runs that command on the state with the queue's rest; `step_idle` is the
case of the empty queue. -/
theorem step_front {s : State} {c : Instr} {rest : List Instr} (h : s.pending = c :: rest) :
    step s = exec c { s with pending := rest } := by
  unfold step
  rw [h]

end Sys2Proof.Machine

open Sys2Proof Sys2Proof.Machine

/-- Settles O1: the case of `step_front` where the command was put on the queue; writing the rest back replaces the whole queue. -/
theorem stepRunsFrontCommand : Obligations.StepRunsFrontCommand := by
  unfold Obligations.StepRunsFrontCommand
  exact fun c rest s => step_front (s := { s with pending := c :: rest }) rfl

end
